-- ==== Sys2Proof/Word.lean ====
section
/-! DEFINITION. The word types: a byte lane or device register, an operand port, a request word. -/

namespace Sys2Proof

/-- One byte: a result lane (R24) or a device register (R40); also an address of the device's register space (R40). -/
abbrev Byte := BitVec 8

/-- The width of an operand port, `OPW` = 32 (R4, R23). -/
abbrev Word := BitVec 32

/-- A request word, 97 bits: OP at bit 96, X at 95:64, Y at 63:32, Z at 31:0 (R60). -/
abbrev Request := BitVec 97

end Sys2Proof
end

