-- ==== Sys2Proof/Syntax.lean ====
section
/-! DEFINITION. The block's two operations (R2, one constructor per row of the opcode table), and the calls of the consumer
that uses it (R68; R50 and R143 for the controller's other calls). -/

namespace Sys2Proof

/-- An operation with its operands as the unsigned integers they denote (R7, R63). ENC_MS keeps its ignored third operand
(R62), so that no bit of a request word is lost. -/
inductive Instr where
  /-- `ENC_PLL a, b, c` (R85). -/
  | encPll (a b c : Nat)
  /-- `ENC_MS divider, r` (R105); `z` is the ignored port Z. -/
  | encMs (divider r z : Nat)
deriving DecidableEq, Repr

/-- The two PLLs (R3, `NUM_PLL` = 2). -/
inductive Pll where
  | a
  | b
deriving DecidableEq, Repr

/-- An output channel, 0, 1 or 2 (R3, `NUM_MS` = 3). -/
abbrev Pin := Fin 3

/-- A parameter block of the device (R41): a PLL's or a multisynth channel's. -/
inductive Target where
  | pll (p : Pll)
  | ms (pin : Pin)
deriving DecidableEq, Repr

/-- One call of the consumer's program. `setupPll` and `setupMs` are the macros of R68; the rest are the Device
Controller's other operations, which the spec gives as context (R50, R143; log 11). -/
inductive Call where
  /-- `SETUP_PLL pll, a, b, c` (R68). -/
  | setupPll (pll : Pll) (a b c : Word)
  /-- `SETUP_MS pin, divider, r` (R68). -/
  | setupMs (pin : Pin) (divider r : Word)
  /-- The source's `initialize()` (R143), with the external power-up table. -/
  | initDevice (table : List (Byte × Byte))
  /-- The source's `resetPLL(pll)` (R143). -/
  | resetPll (pll : Pll)
  /-- The source's `setupPower` (R50): overwrites bits 1:0 of the output's register. -/
  | setupPower (pin : Pin) (level : BitVec 2)
  /-- The source's `enableShutDown` (R50): writes bit 7 of the output's register; `down` is the bit's new value. -/
  | enableShutDown (pin : Pin) (down : Bool)
  /-- The source's `enableOutput(pin, enable)` (R50): writes the output's bit of register 3, 1 = disabled. -/
  | enableOutput (pin : Pin) (enable : Bool)
deriving DecidableEq, Repr

end Sys2Proof
end

