-- ==== Sys2Proof/WellFormed.lean ====
section
/-! DEFINITION. Well-formed operations: every operand is a value its 32-bit port can present (R23, R63). -/

namespace Sys2Proof

/-- An operand the port presents: below 2^32 (R63; a larger or negative one cannot be presented). -/
abbrev fitsPort (v : Nat) : Prop := v < 2 ^ 32

/-- Every operand fits its port. No further check: every X, Y and Z is accepted as a request (R66). -/
def WellFormed : Instr → Bool
  | .encPll a b c => decide (fitsPort a) && decide (fitsPort b) && decide (fitsPort c)
  | .encMs divider r z => decide (fitsPort divider) && decide (fitsPort r) && decide (fitsPort z)

end Sys2Proof
end

