-- ==== Sys2Proof/Decode.lean ====
section
/-! DEFINITION. The request word (R60): its fields, the decoder, which is total on 97-bit words (R69), the encoder, and the
written forms of an operation (R67). -/

namespace Sys2Proof

/-- Field OP, bit 96 (R60). -/
def Request.op (w : Request) : BitVec 1 := w.extractLsb 96 96

/-- Field X, bits 95:64 (R60). -/
def Request.x (w : Request) : Word := w.extractLsb 95 64

/-- Field Y, bits 63:32 (R60). -/
def Request.y (w : Request) : Word := w.extractLsb 63 32

/-- Field Z, bits 31:0 (R60). -/
def Request.z (w : Request) : Word := w.extractLsb 31 0

/-- The word `OP, X, Y, Z` in concatenation, most significant first (R60). -/
def Request.make (op : BitVec 1) (x y z : Word) : Request := op ++ x ++ y ++ z

/-- `zext_32` (R8, R63): the unsigned value of a port. No operand is sign-extended, scaled or shifted. -/
def zext32 (v : Word) : Nat := v.toNat

/-- The operation a request word selects, with its operands (R61, R62, R63, R69): every word selects exactly one. -/
def decode (w : Request) : Instr :=
  if w.op = 0 then .encPll (zext32 w.x) (zext32 w.y) (zext32 w.z)
  else .encMs (zext32 w.x) (zext32 w.y) (zext32 w.z)

/-- The request word of a well-formed operation (R60, R61, R62). -/
def encode : Instr → Request
  | .encPll a b c => Request.make 0 (BitVec.ofNat 32 a) (BitVec.ofNat 32 b) (BitVec.ofNat 32 c)
  | .encMs divider r z => Request.make 1 (BitVec.ofNat 32 divider) (BitVec.ofNat 32 r) (BitVec.ofNat 32 z)

/-- Why a number is no request. -/
inductive DecodeError where
  /-- It has a bit above bit 96, and a request has 97 bits (R60). DESIGN CHOICE, log 4; safe. -/
  | notARequest
deriving DecidableEq, Repr

/-- The operation in a number of any size: the number must be a 97-bit request word (R60). -/
def decodeBits (w : Nat) : Except DecodeError Instr :=
  if w < 2 ^ 97 then .ok (decode (BitVec.ofNat 97 w)) else .error .notARequest

/-- The operation in an instruction whose bits, numbered as the opcode table numbers them, are `w`. The bits above
`nbits` are 0 in `w`, so `nbits` is not needed. -/
def decodeTableWord (_nbits w : Nat) : Option Instr :=
  match decodeBits w with
  | .ok i => some i
  | .error _ => none

/-- The assembler form (R67), operands in decimal. -/
def Instr.assembler : Instr → String
  | .encPll a b c => "ENC_PLL " ++ toString a ++ ", " ++ toString b ++ ", " ++ toString c
  | .encMs divider r _ => "ENC_MS " ++ toString divider ++ ", " ++ toString r

/-- The call form, the source's own (R67). -/
def Instr.callForm : Instr → String
  | .encPll a b c => "encodePll(" ++ toString a ++ ", " ++ toString b ++ ", " ++ toString c ++ ")"
  | .encMs divider r _ => "encodeMultisynth(" ++ toString divider ++ ", " ++ toString r ++ ")"

end Sys2Proof
end

