-- ==== Sys2Proof/Config.lean ====
section
/-! DEFINITION. What an implementation fixes (R4, R5) and the two free values the spec leaves open. -/

namespace Sys2Proof

/-- `R_POLICY` (R5): whether ENC_MS rejects an r that is no power of two (`strict`) or takes n = floor(log2 r) (`floor`). -/
inductive RPolicy where
  | strict
  | floor
deriving DecidableEq, Repr

/-- The parameters R4 leaves to an implementation. They are data in `State` so that every statement over all states
holds for every choice of them; no step changes them (log 3). -/
structure Params where
  /-- `R_POLICY`, R5. -/
  rPolicy : RPolicy
  /-- `LATENCY`, R4, R141: the cycles from a request to its response; 0 is the combinational block. -/
  latency : Nat
deriving DecidableEq, Repr

/-- The defaults of R4: `STRICT`, and `LATENCY` 0 in the model. -/
def Params.default : Params := { rPolicy := .strict, latency := 0 }

/-- `N_MAX` = 2^4 - 1, the largest exponent the top nibble holds (R4, D11). -/
def Config.nMax : Nat := 15

/-- FREE VALUE. What a device register that nothing has written reads as (R142, U12, N9): nothing is known of it.
UNVERIFIED, log 6. -/
opaque Config.powerOnValue : Byte → Byte

/-- FREE VALUE. An order of the bits of register 3, of which nothing is known (R50, N11). UNVERIFIED, log 12. -/
opaque Config.register3Bits : Equiv.Perm (Fin 8)

/-- The bit of register 3 that belongs to output i: one bit per output (R50), so no two outputs share one; which one it is
stays open (N11, log 12). -/
def Config.disableBit (i : Fin 3) : Fin 8 := Config.register3Bits (i.castLE (by decide))

end Sys2Proof
end

