-- ==== Sys2Proof/Machine/State.lean ====
section
/-! DEFINITION. The machine's state as plain data: the block's ports (R23, R24) and its pipeline (R141), the consumer with
its program (R68), the transport's reports (R48, R128), the device's registers (R40) and what its PLLs started
from (R146); and why a step can stop. -/

namespace Sys2Proof.Machine

/-- The eight result bytes `B[0]` .. `B[7]` (R24), one packed register block. -/
structure Block where
  b0 : Byte
  b1 : Byte
  b2 : Byte
  b3 : Byte
  b4 : Byte
  b5 : Byte
  b6 : Byte
  b7 : Byte
deriving DecidableEq, Repr

/-- The causes of a parameter-range error (R121). -/
inductive ErrCode where
  /-- `E_DIV_ZERO`, 1: c = 0. -/
  | divZero
  /-- `E_P3_RANGE`, 2: c does not fit 20 bits. -/
  | p3Range
  /-- `E_FRAC_RANGE`, 3: b is not below c. -/
  | fracRange
  /-- `E_P1_RANGE`, 4: p1 does not fit 18 bits. -/
  | p1Range
  /-- `E_R_ZERO`, 5: r = 0. -/
  | rZero
  /-- `E_R_NOT_POW2`, 6: r is no power of two, under STRICT only. -/
  | rNotPow2
  /-- `E_R_RANGE`, 7: the exponent of r exceeds `N_MAX`. -/
  | rRange
deriving DecidableEq, Repr

/-- The one result a request ends in (R120). -/
inductive Result where
  | ok (b : Block)
  | err (e : ErrCode)
deriving DecidableEq, Repr

/-- What the output ports ERR and B hold (R24): a result, or no value (before the first RSP, R141; after operands
moved, R144). -/
inductive Output where
  | noValue
  | result (r : Result)
deriving DecidableEq, Repr

/-- A request between its REQ and its RSP, `LATENCY` > 0 (R141). -/
structure Flight where
  /-- The operands at REQ. -/
  request : Request
  /-- The cycles still to go until RSP. -/
  left : Nat
  /-- Whether the ports have held the request in every cycle so far (R144). -/
  held : Bool
deriving DecidableEq, Repr

/-- What the transport reports of one access (R48, R128). -/
inductive BusReport where
  | success
  /-- Not acknowledged or timed out; bit k of `landed`: byte k of the access reached its register all the same (R48, U13). -/
  | failed (landed : BitVec 8)
deriving DecidableEq, Repr

/-- A read-modify-write of the Device Controller (R50, R147). -/
inductive Rmw where
  | power (pin : Pin) (level : BitVec 2)
  | shutDown (pin : Pin) (down : Bool)
  | disable (pin : Pin) (enable : Bool)
deriving DecidableEq, Repr

/-- What the consumer is doing, and so whose turn the next step is (R49: one thing at a time, blocking). -/
inductive Consumer where
  /-- Between two calls; with no call left, the block serves a bare requester. -/
  | ready
  /-- It has presented a request for this block and awaits the response. -/
  | awaiting (t : Target)
  /-- It has an `Ok` result and burst-writes it to this block (R44). -/
  | bursting (t : Target)
  /-- It reads the register of a read-modify-write. -/
  | reading (m : Rmw)
  /-- It writes single registers, (address, value), in this order. -/
  | writing (ws : List (Byte × Byte))
deriving DecidableEq, Repr

/-- What the consumer tells its caller of one call (R127, R128). -/
inductive CallReport where
  | done
  | rangeError (e : ErrCode)
  | transportFailure
deriving DecidableEq, Repr

/-- The device's register space (R40): (address, byte) pairs, addresses strictly rising. A register that nothing has
written is not listed and holds no known value (R142). -/
abbrev Memory := List Host.Cell

/-- The settings in the eight registers of a parameter block, lane 0 first; none where nothing is known of a register
(R142, R145). -/
abbrev Settings := List (Option Byte)

/-- The machine. -/
structure State where
  /-- The implementation's parameters (R4, R5); no step changes them. -/
  params : Params
  /-- Port OP (R23). -/
  op : BitVec 1
  /-- Port X (R23). -/
  x : Word
  /-- Port Y (R23). -/
  y : Word
  /-- Port Z (R23). -/
  z : Word
  /-- Port RST, `LATENCY` > 0 (R141). -/
  rst : Bool
  /-- Port REQ, `LATENCY` > 0 (R141). -/
  req : Bool
  /-- Port RSP, `LATENCY` > 0 (R141). -/
  rsp : Bool
  /-- Ports ERR and B[0..7] (R24). -/
  out : Output
  /-- Requests between REQ and RSP, oldest first, `LATENCY` > 0 (R141). -/
  inFlight : List Flight
  /-- What the consumer is doing. -/
  consumer : Consumer
  /-- The consumer's calls still to run, in order (R68). -/
  program : List Call
  /-- The transport's reports on the accesses to come: an input from outside (R128; log 7). -/
  transport : List BusReport
  /-- What the consumer has reported to its caller, one per call, oldest first (R127, R128). -/
  reports : List CallReport
  /-- The device's registers (R40). -/
  device : Memory
  /-- The settings PLL A started from at its last reset (R146); none before its first one (log 24). -/
  startA : Option Settings
  /-- The settings PLL B started from at its last reset (R146); none before its first one (log 24). -/
  startB : Option Settings
deriving DecidableEq, Repr

/-- Why the machine stops with a fault. -/
inductive Fault where
  /-- Raised by a reader of ERR or of a lane while the outputs hold no value: before the first RSP (R141) or after
  operands moved between REQ and RSP (R144). Safe: the spec says the model faults. -/
  | outputHasNoValue
  /-- Raised by a reader of a byte lane while ERR is not 0 (R123). Safe: the spec says the model faults. -/
  | laneOnErr
deriving DecidableEq, Repr

/-- Why a step gives no meaning. -/
inductive Refusal where
  /-- Raised by an arm of exec whose instruction has no meaning; no arm raises it. Safe. -/
  | notModelled (mnemonic : String)
  /-- Raised by the consumer's burst when the result's kind is not the block's kind (R43, U18: no meaning). Safe. -/
  | wrongBlockKind
deriving DecidableEq, Repr

/-- The machine at power-up with the parameters `p`: no request served, no call, nothing known of the device (R142).
With `LATENCY` 0 the outputs are the function of the all-zero inputs (R140), E_DIV_ZERO; with `LATENCY` > 0 they hold no
value (R141). The input ports' zeros are a DESIGN CHOICE, log 1. -/
def State.powerUp (p : Params) : State where
  params := p
  op := 0
  x := 0
  y := 0
  z := 0
  rst := false
  req := false
  rsp := false
  out := if p.latency = 0 then .result (.err .divZero) else .noValue
  inFlight := []
  consumer := .ready
  program := []
  transport := []
  reports := []
  device := []
  startA := none
  startB := none

/-- The machine after reset, with the default parameters of R4. -/
def State.reset : State := State.powerUp Params.default

end Sys2Proof.Machine
end

