-- ==== Sys2Proof/Machine/Operands.lean ====
section
/-! DEFINITION. The request on the ports as one word (R60), the fields computed from the operands (R80 to R83, R100 to
R103), and the packing of fields into bytes (R64). All arithmetic is on integers, with no wrap-around (R7). -/

namespace Sys2Proof.Machine

/-- The request on the input ports, as one word (R60). -/
def State.request (s : State) : Request := Request.make s.op s.x s.y s.z

/-- `f = (128 * b) div c` (R80). -/
def pllF (b c : Nat) : Nat := 128 * b / c

/-- `p1 = 128 * a + f - 512` of a PLL block (R81). -/
def pllP1 (a b c : Nat) : Int := 128 * (a : Int) + (pllF b c : Int) - 512

/-- `p2 = 128 * b - c * f` of a PLL block (R82). -/
def pllP2 (b c : Nat) : Int := 128 * (b : Int) - (c : Int) * (pllF b c : Int)

/-- `p3 = c` of a PLL block (R83). -/
def pllP3 (c : Nat) : Int := c

/-- `n = floor(log2 r)`, for r ≥ 1 (R100). -/
def msExponent (r : Nat) : Nat := Nat.log2 r

/-- `(r & (r - 1)) != 0` (R105): r ≥ 1 is not a power of two. -/
def notPow2 (r : Nat) : Bool := r &&& (r - 1) != 0

/-- `p1 = 128 * divider - 512` of a multisynth block (R101). -/
def msP1 (divider : Nat) : Int := 128 * (divider : Int) - 512

/-- `divby4Flag = 3 if divider = 4 else 0` (R103). -/
def divBy4Flag (divider : Nat) : BitVec 2 := if divider = 4 then 3 else 0

/-- `Pack(p1, p2, p3, n, dv)` (R64, R26, R27). -/
def pack (p1 : BitVec 18) (p2 p3 : BitVec 20) (n : BitVec 4) (dv : BitVec 2) : Block where
  b0 := p3.extractLsb 15 8
  b1 := p3.extractLsb 7 0
  b2 := ((p3.extractLsb 19 16).setWidth 8 <<< 4) ||| (n.setWidth 8 <<< 4) ||| (dv.setWidth 8 <<< 2)
    ||| (p1.extractLsb 17 16).setWidth 8
  b3 := p1.extractLsb 15 8
  b4 := p1.extractLsb 7 0
  b5 := ((p3.extractLsb 19 16).setWidth 8 <<< 4) ||| (p2.extractLsb 19 16).setWidth 8
  b6 := p2.extractLsb 15 8
  b7 := p2.extractLsb 7 0

/-- `Pack` on integers: the fields of an accepted request, which fit their widths (R28, R64). -/
def packFields (p1 p2 p3 : Int) (n : Nat) (dv : BitVec 2) : Block :=
  pack (BitVec.ofInt 18 p1) (BitVec.ofInt 20 p2) (BitVec.ofInt 20 p3) (BitVec.ofNat 4 n) dv

/-- Lane `B[k]` of a block (R24). -/
def Block.lane (b : Block) : Fin 8 → Byte
  | 0 => b.b0
  | 1 => b.b1
  | 2 => b.b2
  | 3 => b.b3
  | 4 => b.b4
  | 5 => b.b5
  | 6 => b.b6
  | 7 => b.b7

/-- The lanes in the order a burst writes them, k rising (R44). -/
def laneOrder : List (Fin 8) := [0, 1, 2, 3, 4, 5, 6, 7]

/-- `DOUT`: the eight lanes as one word, B[0] least significant (R65). -/
def Block.dout (b : Block) : BitVec 64 := b.b7 ++ b.b6 ++ b.b5 ++ b.b4 ++ b.b3 ++ b.b2 ++ b.b1 ++ b.b0

/-- The block base of a target (R42). -/
def blockBase : Target → Byte
  | .pll .a => 26
  | .pll .b => 34
  | .ms 0 => 42
  | .ms 1 => 50
  | .ms 2 => 58

/-- The register lane k of a result is written to, base + k (R44). -/
def blockRegister (t : Target) (k : Fin 8) : Byte := blockBase t + BitVec.ofNat 8 k.val

/-- The OP value of the operation whose results a target takes (R43, R61). -/
def targetOp : Target → BitVec 1
  | .pll _ => 0
  | .ms _ => 1

/-- The register that holds an output's clock control, 16 + i (R50). -/
def clockControl (pin : Pin) : Byte := 16 + BitVec.ofNat 8 pin.val

/-- The output-disable register (R41, R50). -/
def outputDisable : Byte := 3

/-- The reset-control register (R41, R50). -/
def resetControl : Byte := 177

/-- The bit of the reset-control register that resets a PLL: bit 7 for A, bit 5 for B (R50). -/
def resetBit : Pll → Byte
  | .a => 0x80
  | .b => 0x20

/-- The register a read-modify-write reads and writes (R50). -/
def Rmw.register : Rmw → Byte
  | .power pin _ => clockControl pin
  | .shutDown pin _ => clockControl pin
  | .disable _ _ => outputDisable

/-- The byte `v` with bit `i` set to `on` and every other bit kept. -/
def setBit (v : Byte) (i : Fin 8) (on : Bool) : Byte :=
  (v &&& ~~~ (1#8 <<< i.val)) ||| (if on then 1#8 <<< i.val else 0)

/-- What a read-modify-write makes of the byte it read (R50): power overwrites bits 1:0 and keeps the other 6,
shut-down writes bit 7 alone, output enable writes the output's bit of register 3 alone (1 = disabled). -/
def Rmw.apply : Rmw → Byte → Byte
  | .power _ level, v => (v &&& 0xFC) ||| level.setWidth 8
  | .shutDown _ down, v => setBit v 7 down
  | .disable pin enable, v => setBit v (Config.disableBit pin) (!enable)

/-- The writes of the source's `initialize()`, in their fixed order (R143). -/
def initWrites (table : List (Byte × Byte)) : List (Byte × Byte) :=
  [(outputDisable, 0xFF), (clockControl 0, 0x80), (clockControl 1, 0x80), (clockControl 2, 0x80)] ++ table
    ++ [(resetControl, resetBit .a ||| resetBit .b)]

end Sys2Proof.Machine
end

