-- ==== Sys2Proof/Machine/Flags.lean ====
section
/-! DEFINITION. The status port ERR (R24, R25, R121) and the readers of the output ports: what may be read of them, and
where reading faults (R123, R141, R144). ERR is the block's only status output; there are no other flags. -/

namespace Sys2Proof.Machine

/-- The 3-bit code of a cause (R121). -/
def ErrCode.code : ErrCode → BitVec 3
  | .divZero => 1
  | .p3Range => 2
  | .fracRange => 3
  | .p1Range => 4
  | .rZero => 5
  | .rNotPow2 => 6
  | .rRange => 7

/-- What the port ERR carries for a result: 0 for `Ok`, else the code (R65, R120). -/
def Result.errPort : Result → BitVec 3
  | .ok _ => 0
  | .err e => e.code

/-- What the lanes' wires are driven with (R123): the block, or zeros on `Err`. The zeros are no value a reader may rely
on: no reader below gives them, and no agent of the model uses them. -/
def Result.wires : Result → Block
  | .ok b => b
  | .err _ => ⟨0, 0, 0, 0, 0, 0, 0, 0⟩

/-- The result on the output ports, or a fault where they hold no value (R141, R144). -/
def Output.read : Output → Except Fault Result
  | .noValue => .error .outputHasNoValue
  | .result r => .ok r

/-- Reading port ERR. -/
def State.readErr (s : State) : Except Fault (BitVec 3) :=
  match s.out.read with
  | .error f => .error f
  | .ok r => .ok r.errPort

/-- Reading all eight lanes: a fault on `Err` (R123) and where the outputs hold no value (R141, R144). -/
def State.readBlock (s : State) : Except Fault Block :=
  match s.out.read with
  | .error f => .error f
  | .ok (.ok b) => .ok b
  | .ok (.err _) => .error .laneOnErr

/-- Reading lane `B[k]`. -/
def State.readLane (s : State) (k : Fin 8) : Except Fault Byte :=
  match s.readBlock with
  | .error f => .error f
  | .ok b => .ok (b.lane k)

/-- Reading `DOUT` (R65). -/
def State.readDout (s : State) : Except Fault (BitVec 64) :=
  match s.readBlock with
  | .error f => .error f
  | .ok b => .ok b.dout

end Sys2Proof.Machine
end

