-- ==== Sys2Proof/Machine/Ops.lean ====
section
/-! DEFINITION. The named operations: updates of the state, ending a request in a result (the block's one exception is a
result, R120, R124), the device's registers, and the consumer's accesses over the transport. -/

namespace Sys2Proof.Machine

/-- The outcome of a step of this machine. -/
abbrev StepResult := Host.Outcome State Fault Refusal

/-- `o` and then `f` on its next state; a fault or a refusal stays. -/
def andThen (o : StepResult) (f : State → StepResult) : StepResult :=
  match o with
  | .next s => f s
  | .fault r => .fault r
  | .refused r => .refused r

/-- The input ports OP, X, Y, Z driven with a request word (R60). -/
def State.setRequest (s : State) (w : Request) : State := { s with op := w.op, x := w.x, y := w.y, z := w.z }

/-- The strobe REQ driven (R141). -/
def State.setReq (s : State) (b : Bool) : State := { s with req := b }

/-- The output ports ERR and B[0..7] driven (R24). -/
def State.setOut (s : State) (o : Output) : State := { s with out := o }

/-- The strobe RSP and the pipeline (R141). -/
def State.setPipe (s : State) (rsp : Bool) (fs : List Flight) : State := { s with rsp := rsp, inFlight := fs }

/-- What the consumer does next. -/
def State.setConsumer (s : State) (c : Consumer) : State := { s with consumer := c }

/-- The consumer's calls still to run. -/
def State.setProgram (s : State) (p : List Call) : State := { s with program := p }

/-- The transport's reports still to come. -/
def State.setTransport (s : State) (l : List BusReport) : State := { s with transport := l }

/-- The device's registers. -/
def State.setDevice (s : State) (m : Memory) : State := { s with device := m }

/-- The settings the two PLLs started from (R146). -/
def State.setStarts (s : State) (a b : Option Settings) : State := { s with startA := a, startB := b }

/-- The settings a PLL started from at its last reset (R146). -/
def State.start (s : State) : Pll → Option Settings
  | .a => s.startA
  | .b => s.startB

/-- The end of a call: its report goes to the caller, and the consumer is ready for the next one (R127, R128). -/
def State.finish (s : State) (r : CallReport) : State :=
  { s with consumer := .ready, reports := s.reports ++ [r] }

/-- A request ends in its one result, driven on the output ports; nothing else changes (R65, R120, R25). Raising a
parameter-range error is ending in `Err(code)`: no state is saved and control goes nowhere (R124). -/
def State.conclude (s : State) (r : Result) : StepResult := .next (s.setOut (.result r))

/-- `raise ParamRangeError(code)` (R8, R120): the operation ends at once with `Err(code)`. -/
def raiseParamRangeError (e : ErrCode) : Result := .err e

/-- A device register's byte; none where nothing has written it, since nothing is known of it then (R142). -/
def Memory.read : Memory → Byte → Option Byte
  | [], _ => none
  | (k, v) :: m, a => if k = a.toNat then some v else Memory.read m a

/-- `MemWrite(addr, 1, v)` (R8): one register written, the addresses kept rising. -/
def Memory.write : Memory → Byte → Byte → Memory
  | [], a, v => [(a.toNat, v)]
  | (k, u) :: m, a, v =>
    if a.toNat < k then (a.toNat, v) :: (k, u) :: m
    else if a.toNat = k then (k, v) :: m
    else (k, u) :: Memory.write m a v

/-- The canonical form: addresses strictly rising, each one of the 256 (R40). -/
def Memory.wf (m : Memory) : Bool :=
  decide (m.Pairwise (fun p q => p.1 < q.1)) && m.all (fun p => decide (p.1 < 256))

/-- What a bus read of a register gives: its byte, or the free power-on value where nothing has written it (R142, U12,
log 6). -/
def Memory.busRead (m : Memory) (a : Byte) : Byte := (m.read a).getD (Config.powerOnValue a)

/-- Whether byte k of an access reaches its register (R48): always on success, as the report says on failure. -/
def BusReport.lands : BusReport → Fin 8 → Bool
  | .success, _ => true
  | .failed landed, k => landed.getLsbD k.val

/-- One lane of a burst: the register is written, or keeps its value where the write was lost (R48). -/
def writeLane (t : Target) (b : Block) (r : BusReport) (m : Memory) (k : Fin 8) : Memory :=
  if r.lands k then m.write (blockRegister t k) (b.lane k) else m

/-- The burst of a block to its target: lane k to base + k, k rising (R44, R46), as the transport reports it (R48). -/
def burstWrite (t : Target) (b : Block) (r : BusReport) (m : Memory) : Memory :=
  laneOrder.foldl (writeLane t b r) m

/-- A write of one register, as the transport reports it: bit 0 of a failed report says whether it landed (log 8). -/
def busWrite (w : Byte × Byte) (r : BusReport) (m : Memory) : Memory :=
  if r.lands 0 then m.write w.1 w.2 else m

/-- The settings in the registers of a parameter block (R44). -/
def blockSettings (t : Target) (m : Memory) : Settings := laneOrder.map fun k => m.read (blockRegister t k)

/-- Whether the write of a register pulses the reset of a PLL: a write of register 177 with the PLL's bit (R50). -/
def pulsesReset (p : Pll) (w : Byte × Byte) : Bool := decide (w.1 = resetControl ∧ w.2 &&& resetBit p ≠ 0)

/-- What a PLL's start is after a write of one register: a reset that reached the device makes it start from the settings
in its block (R146); any other write leaves it. -/
def State.startAfter (s : State) (w : Byte × Byte) (r : BusReport) (p : Pll) : Option Settings :=
  if r.lands 0 && pulsesReset p w then some (blockSettings (.pll p) s.device) else s.start p

/-- The write of one register as the transport reports it, with the resets it pulses (R50, R146). -/
def State.applyWrite (s : State) (w : Byte × Byte) (r : BusReport) : State :=
  (s.setDevice (busWrite w r s.device)).setStarts (s.startAfter w r .a) (s.startAfter w r .b)

/-- What the caller is told of a call that ends with this access (R128). -/
def BusReport.callReport : BusReport → CallReport
  | .success => .done
  | .failed _ => .transportFailure

end Sys2Proof.Machine
end

