-- ==== Sys2Proof/Machine/Ms.lean ====
section
/-! DEFINITION. ENC_MS: multisynth parameter encoding (R105). -/

namespace Sys2Proof.Machine

/-- The result of `ENC_MS divider, r` under a policy: the checks in the order of R105 and R122, then the packed fields. -/
def encodeMs (policy : RPolicy) (divider r : Nat) : Result :=
  if divider < 4 ∨ divider > 2051 then raiseParamRangeError .p1Range
  else if r = 0 then raiseParamRangeError .rZero
  else if policy = .strict ∧ notPow2 r then raiseParamRangeError .rNotPow2
  else if msExponent r > Config.nMax then raiseParamRangeError .rRange
  else .ok (packFields (msP1 divider) 0 1 (msExponent r) (divBy4Flag divider))

/-- `ENC_MS divider, r` (R105): the result on the output ports, nothing else; the third port is ignored (R62). -/
def execEncMs (divider r _z : Nat) (s : State) : StepResult := s.conclude (encodeMs s.params.rPolicy divider r)

end Sys2Proof.Machine
end

