-- ==== Sys2Proof/Machine/Pll.lean ====
section
/-! DEFINITION. ENC_PLL: PLL parameter encoding (R85). -/

namespace Sys2Proof.Machine

/-- The result of `ENC_PLL a, b, c`: the checks in the order of R85 and R122, then the packed fields. -/
def encodePll (a b c : Nat) : Result :=
  if c = 0 then raiseParamRangeError .divZero
  else if c > 2 ^ 20 - 1 then raiseParamRangeError .p3Range
  else if b ≥ c then raiseParamRangeError .fracRange
  else if pllP1 a b c < 0 ∨ pllP1 a b c > 2 ^ 18 - 1 then raiseParamRangeError .p1Range
  else .ok (packFields (pllP1 a b c) (pllP2 b c) (pllP3 c) 0 0)

/-- `ENC_PLL a, b, c` (R85): the result on the output ports, nothing else. -/
def execEncPll (a b c : Nat) (s : State) : StepResult := s.conclude (encodePll a b c)

end Sys2Proof.Machine
end

