-- ==== Sys2Proof/Machine/Dispatch.lean ====
section
/-! DEFINITION. One arm per operation (R2): both have their meaning. -/

namespace Sys2Proof.Machine

def exec (i : Instr) (s : State) : Host.Outcome State Fault Refusal :=
  match i with
  | .encPll a b c => Sys2Proof.Machine.execEncPll a b c s
  | .encMs divider r z => Sys2Proof.Machine.execEncMs divider r z s

end Sys2Proof.Machine
end

