-- ==== Sys2Proof/Machine/Clock.lean ====
section
/-! DEFINITION. The block's turn: with `LATENCY` 0 the request on the ports is evaluated (R140, R148); with `LATENCY` > 0
one cycle of CLK passes (R141, R144). -/

namespace Sys2Proof.Machine

/-- The request a cycle's REQ strobes into the pipeline, with all `LATENCY` cycles before it (R141). -/
def State.strobed (s : State) : List Flight :=
  if s.req then [{ request := s.request, left := s.params.latency, held := true }] else []

/-- A request one cycle on: one cycle fewer to go, and held so far only if the ports still carry it (R144). The whole word
is compared, the Z that ENC_MS ignores too: DESIGN CHOICE, safe, since R144 asks for Z to be held and R62 makes it a
don't-care (log 25). -/
def Flight.advance (w : Request) (f : Flight) : Flight :=
  { f with left := f.left - 1, held := f.held && decide (w = f.request) }

/-- The pipeline one cycle on: a request strobed in this cycle enters last (R141). -/
def State.advance (s : State) : List Flight := (s.inFlight ++ s.strobed).map (Flight.advance s.request)

/-- The response to a request due now: RSP is asserted, and the outputs become the function of that request's own
operands (R141, R32), or hold no value if the operands moved (R144). -/
def respond (f : Flight) (s : State) : StepResult :=
  if f.held then exec (decode f.request) s else .next (s.setOut .noValue)

/-- One cycle of CLK (R141). RST clears RSP and the pipeline and leaves the outputs without a value. A cycle with no
response has RSP 0 and keeps the outputs (log 14). -/
def clockEdge (s : State) : StepResult :=
  if s.rst then .next ((s.setPipe false []).setOut .noValue)
  else match s.advance with
    | [] => .next (s.setPipe false [])
    | f :: fs => if f.left = 0 then respond f (s.setPipe true fs) else .next (s.setPipe false (f :: fs))

/-- The block's turn. -/
def blockStep (s : State) : StepResult :=
  if s.params.latency = 0 then exec (decode s.request) s else clockEdge s

end Sys2Proof.Machine
end

