-- ==== Sys2Proof/Machine/Consumer.lean ====
section
/-! DEFINITION. The consumer (R44, R49, R68, R127, R128): it presents requests, takes results, and writes the device over
the transport, one access at a time and blocking. -/

namespace Sys2Proof.Machine

/-- Whether the response the consumer awaits is there: at once with `LATENCY` 0; otherwise with the RSP that answers its
own request (R141), which is the last in the pipeline, since the consumer strobes REQ once and waits. -/
def State.responded (s : State) : Bool := decide (s.params.latency = 0) || (s.rsp && s.inFlight.isEmpty)

/-- The consumer takes the response it awaits. `Ok` goes on to the burst; `Err(code)` writes nothing, is reported to the
caller with its code, and stops the program (R68, R127); reading outputs that hold no value faults (R141, R144). -/
def takeResponse (s : State) : StepResult :=
  match s.consumer with
  | .awaiting t =>
    if s.responded then
      match s.out.read with
      | .error f => .fault f
      | .ok (.ok _) => .next (s.setConsumer (.bursting t))
      | .ok (.err e) => .next ((s.setProgram []).finish (.rangeError e))
    else .next s
  | _ => .next s

/-- The block's turn on the consumer's request: the strobe REQ lasts one cycle (R141), then the consumer takes the
response if it is there. -/
def serve (s : State) : StepResult := andThen (blockStep s) (fun t => takeResponse (t.setReq false))

/-- The consumer presents a request for a target on the ports (R60, R68). -/
def State.present (s : State) (t : Target) (w : Request) : State :=
  ((s.setRequest w).setReq (decide (s.params.latency ≠ 0))).setConsumer (.awaiting t)

/-- A call begins. The ignored operand of the consumer's ENC_MS requests is 0 (log 18). -/
def beginCall (c : Call) (s : State) : StepResult :=
  match c with
  | .setupPll pll a b c => serve (s.present (.pll pll) (Request.make 0 a b c))
  | .setupMs pin divider r => serve (s.present (.ms pin) (Request.make 1 divider r 0))
  | .initDevice table => .next (s.setConsumer (.writing (initWrites table)))
  | .resetPll pll => .next (s.setConsumer (.writing [(resetControl, resetBit pll)]))
  | .setupPower pin level => .next (s.setConsumer (.reading (.power pin level)))
  | .enableShutDown pin down => .next (s.setConsumer (.reading (.shutDown pin down)))
  | .enableOutput pin enable => .next (s.setConsumer (.reading (.disable pin enable)))

/-- The burst of the result on the lanes to its target (R44, R48), once the transport has reported on it; until then the
consumer blocks (log 7). A result of the other kind has no meaning there (R43, U18). -/
def burstStep (t : Target) (s : State) : StepResult :=
  if s.op = targetOp t then
    match s.readBlock with
    | .error f => .fault f
    | .ok b =>
      match s.transport with
      | [] => .next s
      | r :: rs => .next (((s.setDevice (burstWrite t b r s.device)).setTransport rs).finish r.callReport)
  else .refused .wrongBlockKind

/-- The read of a read-modify-write (R50, R147): the write follows as an access of its own, so the pair is not atomic. -/
def readStep (m : Rmw) (s : State) : StepResult :=
  match s.transport with
  | [] => .next s
  | .success :: rs =>
    .next ((s.setTransport rs).setConsumer (.writing [(m.register, m.apply (s.device.busRead m.register))]))
  | .failed _ :: rs => .next ((s.setTransport rs).finish .transportFailure)

/-- The next of a sequence of single-register writes. A failure aborts the rest and is surfaced to the caller (R143,
R128). -/
def writeStep (ws : List (Byte × Byte)) (s : State) : StepResult :=
  match ws, s.transport with
  | [], _ => .next (s.finish .done)
  | _ :: _, [] => .next s
  | w :: ws, .success :: rs =>
    .next (((s.applyWrite w .success).setTransport rs).setConsumer (.writing ws))
  | w :: _, .failed landed :: rs =>
    .next (((s.applyWrite w (.failed landed)).setTransport rs).finish .transportFailure)

/-- The turn of a ready consumer: the next call of its program (R68: in order), or, with none left, the block's turn on
whatever request stands on the ports. -/
def readyStep (s : State) : StepResult :=
  match s.program with
  | [] => blockStep s
  | c :: cs => beginCall c (s.setProgram cs)

/-- The turn the field `consumer` names. -/
def turn (s : State) : StepResult :=
  match s.consumer with
  | .ready => readyStep s
  | .awaiting _ => serve s
  | .bursting t => burstStep t s
  | .reading m => readStep m s
  | .writing ws => writeStep ws s

/-- The state in which the next turn is the block's, for a bare request on the ports, and serves exactly it: at
`LATENCY` 0 the request stands on the ports; at `LATENCY` > 0 it is the one request in flight and due in the next cycle. -/
def State.placeRequest (s : State) (w : Request) : State :=
  let t := ((s.setRequest w).setConsumer .ready).setProgram []
  if s.params.latency = 0 then t else { t with rst := false, req := false, inFlight := [⟨w, 1, true⟩] }

end Sys2Proof.Machine
end

