-- ==== Sys2Proof/Machine/Step.lean ====
section
/-! DEFINITION. One step of the machine: one turn of the block or of the consumer. -/

namespace Sys2Proof.Machine

/-- One step: the turn of the agent whose turn it is. -/
def step (s : State) : Host.Outcome State Fault Refusal := turn s

/-- The state with the request whose bits are `w` as the one the next step serves (R60: one format and one length, so
`nbits` is not needed; log 19). -/
def State.withFetchWord (s : State) (_nbits w : Nat) : State := s.placeRequest (BitVec.ofNat 97 w)

end Sys2Proof.Machine
end

