-- ==== Sys2Proof/Laws/PerInstr.lean ====
section
/-! SUPPORT. Statements for every operation as one lemma per constructor: the request word keeps every operand. -/

namespace Sys2Proof.Laws.RoundTrip

open Sys2Proof

/-- A well-formed operation is what its request word decodes to (R60 to R63, R69). -/
def Statement (i : Instr) : Prop := WellFormed i = true → decode (encode i) = i

/-- The fields of a word that is made of four ports (R60). -/
theorem fields_make (o : BitVec 1) (x y z : Word) :
    (Request.make o x y z).op = o ∧ (Request.make o x y z).x = x ∧ (Request.make o x y z).y = y ∧
      (Request.make o x y z).z = z := by
  have := o.isLt; have := x.isLt; have := y.isLt; have := z.isLt
  refine ⟨?_, ?_, ?_, ?_⟩ <;>
  · apply BitVec.eq_of_toNat_eq
    simp only [Request.op, Request.x, Request.y, Request.z, Request.make, BitVec.extractLsb_toNat, BitVec.toNat_append]
    rw [← Nat.shiftLeft_add_eq_or_of_lt (by omega), ← Nat.shiftLeft_add_eq_or_of_lt (by omega),
      ← Nat.shiftLeft_add_eq_or_of_lt (by omega)]
    simp only [Nat.shiftLeft_eq, Nat.shiftRight_eq_div_pow]
    omega

/-- An operand that fits its port is read back unchanged (R63). -/
theorem zext32_ofNat {v : Nat} (h : fitsPort v) : zext32 (BitVec.ofNat 32 v) = v := by
  simp only [zext32, BitVec.toNat_ofNat]
  exact Nat.mod_eq_of_lt h

theorem encPll (a b c : Nat) : Statement (.encPll a b c) := by
  intro h
  simp only [WellFormed, Bool.and_eq_true, decide_eq_true_eq] at h
  obtain ⟨e, ex, ey, ez⟩ := fields_make 0 (BitVec.ofNat 32 a) (BitVec.ofNat 32 b) (BitVec.ofNat 32 c)
  simp only [decode, encode, e, ex, ey, ez, zext32_ofNat h.1.1, zext32_ofNat h.1.2, zext32_ofNat h.2, if_pos]

theorem encMs (divider r z : Nat) : Statement (.encMs divider r z) := by
  intro h
  simp only [WellFormed, Bool.and_eq_true, decide_eq_true_eq] at h
  obtain ⟨e, ex, ey, ez⟩ := fields_make 1 (BitVec.ofNat 32 divider) (BitVec.ofNat 32 r) (BitVec.ofNat 32 z)
  simp only [decode, encode, e, ex, ey, ez, zext32_ofNat h.1.1, zext32_ofNat h.1.2, zext32_ofNat h.2]
  rw [if_neg (by decide)]

end Sys2Proof.Laws.RoundTrip
end

