-- ==== Sys2Proof/Machine/Reference.lean ====
section
/-! DEFINITION. The reference decodes of R88 and R108, what comes back from them of the operands (R89, R109), the result of
an operation as a function of the operation and the policy alone (R20, R32), the device's register map (R41), and what a PLL
runs from (R146): checking functions, not operations of the block (R2). -/

namespace Sys2Proof.Machine

/-- What DecodePll reads from a block (R88). -/
structure PllFields where
  p1 : BitVec 18
  p2 : BitVec 20
  p3 : BitVec 20
deriving DecidableEq, Repr

/-- What DecodeMs reads from a block (R108). -/
structure MsFields where
  p1 : BitVec 18
  p2 : BitVec 20
  p3 : BitVec 20
  n : BitVec 4
  dv : BitVec 2
deriving DecidableEq, Repr

/-- `DecodePll(B)` (R88); none is `NotAPllBlock`. -/
def decodePll (b : Block) : Option PllFields :=
  if b.b2.extractLsb 7 4 ≠ b.b5.extractLsb 7 4 ∨ b.b2.extractLsb 3 2 ≠ 0 then none
  else some {
    p1 := b.b2.extractLsb 1 0 ++ b.b3 ++ b.b4
    p2 := b.b5.extractLsb 3 0 ++ b.b6 ++ b.b7
    p3 := b.b2.extractLsb 7 4 ++ b.b0 ++ b.b1 }

/-- `DecodeMs(B)` (R108); none is `NotAMsBlock`. -/
def decodeMs (b : Block) : Option MsFields :=
  if b.b0 ≠ 0x00 ∨ b.b1 ≠ 0x01 ∨ b.b5 ≠ 0x00 ∨ b.b6 ≠ 0x00 ∨ b.b7 ≠ 0x00 then none
  else some {
    p1 := b.b2.extractLsb 1 0 ++ b.b3 ++ b.b4
    p2 := 0
    p3 := 1
    n := b.b2.extractLsb 7 4
    dv := b.b2.extractLsb 3 2 }

/-- The operands of an accepted ENC_PLL from the fields DecodePll gives (R89): a, b and c. -/
def recoverPll (F : PllFields) : Nat × Nat × Nat :=
  let c := F.p3.toNat
  let f := (F.p1.toNat + 512) % 128
  ((F.p1.toNat + 512) / 128, (F.p2.toNat + c * f) / 128, c)

/-- The divider of an accepted ENC_MS from the fields DecodeMs gives, and the exponent of its r (R109). -/
def recoverMs (F : MsFields) : Nat × Nat := ((F.p1.toNat + 512) / 128, F.n.toNat)

/-- The result of an operation under a policy (R20: a total function from a request to a result). -/
def resultOf (policy : RPolicy) : Instr → Result
  | .encPll a b c => encodePll a b c
  | .encMs divider r _ => encodeMs policy divider r

/-- What the register map names a register for (R41). -/
inductive Purpose where
  /-- A register of a parameter block. -/
  | parameterBlock (t : Target)
  /-- Register 3. -/
  | outputDisable
  /-- Registers 16, 17, 18. -/
  | clockControl (pin : Pin)
  /-- Register 177. -/
  | resetControl
  /-- Any other address: the map does not name it. -/
  | unnamed
deriving DecidableEq, Repr

/-- The register map (R41). -/
def purposeOf (a : Byte) : Purpose :=
  if a = 3 then .outputDisable
  else if a = 16 then .clockControl 0
  else if a = 17 then .clockControl 1
  else if a = 18 then .clockControl 2
  else if 26 ≤ a ∧ a ≤ 33 then .parameterBlock (.pll .a)
  else if 34 ≤ a ∧ a ≤ 41 then .parameterBlock (.pll .b)
  else if 42 ≤ a ∧ a ≤ 49 then .parameterBlock (.ms 0)
  else if 50 ≤ a ∧ a ≤ 57 then .parameterBlock (.ms 1)
  else if 58 ≤ a ∧ a ≤ 65 then .parameterBlock (.ms 2)
  else if a = 177 then .resetControl
  else .unnamed

/-- What the spec says a PLL runs from: the settings it started from at its last reset, while its block holds them.
Before a first reset, and while its block holds other settings, none: the spec makes no claim then (R146). Once its block was
written back with no reset between, the start again: DESIGN CHOICE, unsafe, since R146 does not speak of it (log 24). -/
def State.runsFrom (s : State) (p : Pll) : Option Settings :=
  if s.start p = some (blockSettings (.pll p) s.device) then s.start p else none

end Sys2Proof.Machine
end

