-- ==== Sys2Proof/Safety.lean ====
section
/-! DEFINITION. What every run keeps, in the terms the statements use: the invariants of the block, of its pipeline, of the
consumer and of the device's registers, and a step that does not stop. -/

namespace Sys2Proof

open Sys2Proof.Machine

/-- With `LATENCY` 0 the outputs are a function of the inputs (R20, R23, R140): of the request on the ports and the policy. -/
def Combinational (s : State) : Prop :=
  s.params.latency = 0 → s.out = .result (resultOf s.params.rPolicy (decode s.request))

/-- Requests in flight respond one a cycle, in the order they came, each within `LATENCY` cycles (R141). -/
def PipelineOrdered (s : State) : Prop :=
  s.inFlight.Pairwise (fun f g => f.left < g.left) ∧ ∀ f ∈ s.inFlight, 1 ≤ f.left ∧ f.left < s.params.latency

/-- While the consumer awaits a response, the ports and the last request in flight are its own, of its target's kind, and
it has held its operands (R144); while it bursts, the outputs carry an `Ok` result of its target's kind (R43). -/
def ConsumerSound (s : State) : Prop :=
  match s.consumer with
  | .awaiting t => s.op = targetOp t ∧ ∀ f, s.inFlight.getLast? = some f → f.request = s.request ∧ f.held = true
  | .bursting t => s.op = targetOp t ∧ ∃ b, s.out = .result (.ok b)
  | _ => True

/-- The device's registers are in canonical form (R40). -/
def DeviceWf (s : State) : Prop := s.device.wf = true

/-- The step from `s` neither faults nor refuses. -/
def StepGoesOn (s : State) : Prop := ∃ t, step s = .next t

/-- The lanes read as these eight bytes, B[0] first (R24, R65). -/
def HoldsLanes (s : State) (l : List Nat) : Prop :=
  l.length = 8 ∧ ∀ k : Fin 8, ∃ v, s.readLane k = .ok v ∧ l[k.val]? = some v.toNat

/-- The next step is the block's turn on the request a bare requester has put on the ports. -/
def BareRequest (s : State) : Prop := s.consumer = .ready ∧ s.program = []

/-- `k` steps, one after the other, stopping at the first that does not go on. -/
def steps : Nat → State → StepResult
  | 0, s => .next s
  | k + 1, s => andThen (step s) (steps k)

/-- What a register reads as on the bus: its byte, or the free power-on value if nothing has written it (R142, log 6). -/
def busValue (s : State) (a : Byte) : Byte := s.device.busRead a

/-- The call is over and reported done: the consumer is ready, with these calls and these transport reports left (R68). -/
def CallDone (s t : State) (cs : List Call) (rs : List BusReport) : Prop :=
  t.consumer = .ready ∧ t.program = cs ∧ t.transport = rs ∧ t.reports = s.reports ++ [.done]

/-- From `s` to `t` the register `a` was written with `v`, and no other register changed. -/
def WritesOnly (s t : State) (a v : Byte) : Prop :=
  t.device.read a = some v ∧ ∀ x, x ≠ a → t.device.read x = s.device.read x

end Sys2Proof
end

