-- ==== Sys2Proof/Certificates/Slice0/Obligations.lean ====
section
/-! DEFINITION. The statements for the provers, each over every state, from the numbered rules of spec/. -/

open Sys2Proof Sys2Proof.Machine

/-! ## Encoding -/

/-- R69: bit 96 of a request word selects the operation, and its operands are w[95:64], w[63:32] and w[31:0], read as
unsigned integers (R63). -/
def Obligations.DecodeSelectsByOp : Prop :=
  ∀ w : Request, decode w =
    if w.toNat / 2 ^ 96 = 0
    then .encPll (w.toNat / 2 ^ 64 % 2 ^ 32) (w.toNat / 2 ^ 32 % 2 ^ 32) (w.toNat % 2 ^ 32)
    else .encMs (w.toNat / 2 ^ 64 % 2 ^ 32) (w.toNat / 2 ^ 32 % 2 ^ 32) (w.toNat % 2 ^ 32)

/-- Words written out from R60 to R62 (95_test_vectors.md P12, P17, M3, M10) decode to the operations they stand for, and
a number with a bit above bit 96 is no request (log 4, the model's choice). -/
def Obligations.SpecWordsDecode : Prop :=
  decodeTableWord 104 0x0_00000018_000F423F_000F4240 = some (.encPll 24 999999 1000000) ∧
  decodeTableWord 104 0x0_00000004_FFFFFFFF_00000000 = some (.encPll 4 4294967295 0) ∧
  decodeTableWord 104 0x1_00000004_00000080_DEADBEEF = some (.encMs 4 128 0xDEADBEEF) ∧
  decodeTableWord 104 0x1_00000803_00008000_00000000 = some (.encMs 2051 32768 0) ∧
  decodeTableWord 104 0x2_00000000_00000000_00000000 = none

/-- R60 to R63, R69: request words and well-formed operations correspond one to one, so no bit of a word is dropped. -/
def Obligations.EncodeDecodeInverse : Prop :=
  (∀ i : Instr, WellFormed i = true → decode (encode i) = i) ∧
  (∀ w : Request, WellFormed (decode w) = true ∧ encode (decode w) = w)

/-! ## ENC_PLL -/

/-- R85 (with R80 to R83): a word with OP 0 is ENC_PLL of its three fields. ENC_PLL on any operands and in any state
gives a next state that differs in the outputs alone, and they carry the error of the first check that fails, with its
code on ERR, or `Ok` with ERR 0 and a block whose fields are p1 = 128 a + f - 512, p2 = 128 b - c f and p3 = c, for
f = 128 b div c, which is at most 127. -/
def Obligations.EncPllResult : Prop :=
  (∀ w : Request, w.op = 0 → decode w = .encPll w.x.toNat w.y.toNat w.z.toNat) ∧
  ∀ (a b c : Nat) (s : State), ∃ t, exec (.encPll a b c) s = .next t ∧ t = s.setOut t.out ∧
    (c = 0 → t.out = .result (.err .divZero) ∧ t.readErr = .ok 1) ∧
    (2 ^ 20 - 1 < c → t.out = .result (.err .p3Range) ∧ t.readErr = .ok 2) ∧
    (0 < c → c ≤ 2 ^ 20 - 1 → c ≤ b → t.out = .result (.err .fracRange) ∧ t.readErr = .ok 3) ∧
    (0 < c → c ≤ 2 ^ 20 - 1 → b < c → ∀ (f : Nat) (p1 p2 : Int),
      f = 128 * b / c → p1 = 128 * (a : Int) + f - 512 → p2 = 128 * (b : Int) - c * f → f ≤ 127 ∧
      (p1 < 0 ∨ 2 ^ 18 - 1 < p1 → t.out = .result (.err .p1Range) ∧ t.readErr = .ok 4) ∧
      (0 ≤ p1 → p1 ≤ 2 ^ 18 - 1 → t.readErr = .ok 0 ∧ ∃ B F, t.out = .result (.ok B) ∧ decodePll B = some F ∧
        (F.p1.toNat : Int) = p1 ∧ (F.p2.toNat : Int) = p2 ∧ F.p3.toNat = c))

/-- R26: the eight bytes of an accepted PLL request, bit by bit of p1, p2 and p3. -/
def Obligations.EncPllLanes : Prop :=
  ∀ (a b c p1 p2 : Nat) (s : State), b < c → c < 2 ^ 20 → 4 ≤ a → a ≤ 2051 →
    p1 + 512 = 128 * a + 128 * b / c → p2 = 128 * b % c →
    ∃ t, exec (.encPll a b c) s = .next t ∧
      HoldsLanes t [c / 2 ^ 8 % 2 ^ 8, c % 2 ^ 8, c / 2 ^ 16 * 2 ^ 4 + p1 / 2 ^ 16, p1 / 2 ^ 8 % 2 ^ 8, p1 % 2 ^ 8,
        c / 2 ^ 16 * 2 ^ 4 + p2 / 2 ^ 16, p2 / 2 ^ 8 % 2 ^ 8, p2 % 2 ^ 8]

/-- R86: for a proper fraction, p1 fits 18 bits exactly when 4 ≤ a ≤ 2051, and E_P1_RANGE is that check. -/
def Obligations.PllRangeOfA : Prop :=
  ∀ (a b c : Nat) (s : State), b < c →
    ((0 ≤ pllP1 a b c ∧ pllP1 a b c ≤ 2 ^ 18 - 1) ↔ (4 ≤ a ∧ a ≤ 2051)) ∧
    (c < 2 ^ 20 → ∃ t, exec (.encPll a b c) s = .next t ∧ (t.out = .result (.err .p1Range) ↔ (a < 4 ∨ 2051 < a)))

/-- R29, R30: in every PLL block bits 3:2 of B[2] are 0 and the two copies of p3[19:16] agree. -/
def Obligations.PllBlockRedundancy : Prop :=
  ∀ (a b c : Nat) (s t : State) (B : Block), exec (.encPll a b c) s = .next t → t.out = .result (.ok B) →
    B.b2.toNat / 4 % 4 = 0 ∧ B.b2.toNat / 16 = B.b5.toNat / 16 ∧ B.b2.toNat / 16 = c / 2 ^ 16

/-- R89: the round-trip law of ENC_PLL. Requests with b < c < 2^20 and 4 ≤ a ≤ 2051 are accepted. If ENC_PLL a, b, c gives
`Ok(B)`, whatever the operands and the state, then DecodePll(B) gives the fields of R81 to R83, p1 = 128 a + f - 512,
p2 = 128 b - c f and p3 = c, for f = 128 b div c; recoverPll gives a, b and c back from them, its division by 128 exact;
so two triples with different c, of the same ratio or not, give different blocks. -/
def Obligations.PllRecoverable : Prop :=
  (∀ (a b c : Nat) (s : State), b < c → c < 2 ^ 20 → 4 ≤ a → a ≤ 2051 →
    ∃ t B, exec (.encPll a b c) s = .next t ∧ t.out = .result (.ok B)) ∧
  ∀ (a b c : Nat) (s t : State) (B : Block), exec (.encPll a b c) s = .next t → t.out = .result (.ok B) →
    (∃ F, decodePll B = some F ∧
      (∀ f : Nat, f = 128 * b / c → (F.p1.toNat : Int) = 128 * (a : Int) + f - 512 ∧
        (F.p2.toNat : Int) = 128 * (b : Int) - c * f ∧ F.p3.toNat = c ∧ f = (F.p1.toNat + 512) % 128) ∧
      c = F.p3.toNat ∧ a = (F.p1.toNat + 512) / 128 ∧ 128 * b = F.p2.toNat + c * ((F.p1.toNat + 512) % 128) ∧
      recoverPll F = (a, b, c)) ∧
    ∀ (a' b' c' : Nat) (s' t' : State) (B' : Block), exec (.encPll a' b' c') s' = .next t' → t'.out = .result (.ok B') →
      c ≠ c' → B ≠ B'

/-! ## ENC_MS -/

/-- R105 (with R100 to R103): a word with OP 1 is ENC_MS of its first two fields. ENC_MS on any operands and in any state
gives a next state that differs in the outputs alone, and they carry the error of the first check that fails, with its
code on ERR, or `Ok` with ERR 0 and a block whose fields are p1 = 128 divider - 512, p2 = 0, p3 = 1, the exponent n of r
and divby4Flag. The ignored operand z appears nowhere in the result. -/
def Obligations.EncMsResult : Prop :=
  (∀ w : Request, w.op = 1 → decode w = .encMs w.x.toNat w.y.toNat w.z.toNat) ∧
  ∀ (divider r z : Nat) (s : State), ∃ t, exec (.encMs divider r z) s = .next t ∧ t = s.setOut t.out ∧
    (divider < 4 ∨ 2051 < divider → t.out = .result (.err .p1Range) ∧ t.readErr = .ok 4) ∧
    (4 ≤ divider → divider ≤ 2051 →
      (r = 0 → t.out = .result (.err .rZero) ∧ t.readErr = .ok 5) ∧
      (0 < r → s.params.rPolicy = .strict → (¬ ∃ k, r = 2 ^ k) →
        t.out = .result (.err .rNotPow2) ∧ t.readErr = .ok 6) ∧
      (s.params.rPolicy = .floor ∨ (∃ k, r = 2 ^ k) → ∀ n, 2 ^ n ≤ r → r < 2 ^ (n + 1) →
        (15 < n → t.out = .result (.err .rRange) ∧ t.readErr = .ok 7) ∧
        (n ≤ 15 → t.readErr = .ok 0 ∧ ∃ B F, t.out = .result (.ok B) ∧ decodeMs B = some F ∧
          F.p1.toNat = 128 * divider - 512 ∧ F.p2 = 0 ∧ F.p3 = 1 ∧ F.n.toNat = n ∧
          F.dv.toNat = if divider = 4 then 3 else 0)))

/-- R106 (and R27): the eight bytes of an accepted multisynth request. -/
def Obligations.EncMsLanes : Prop :=
  ∀ (divider r z n p1 : Nat) (s : State), 4 ≤ divider → divider ≤ 2051 → p1 = 128 * divider - 512 →
    2 ^ n ≤ r → r < 2 ^ (n + 1) → n ≤ 15 → (s.params.rPolicy = .floor ∨ r = 2 ^ n) →
    ∃ t, exec (.encMs divider r z) s = .next t ∧
      HoldsLanes t [0x00, 0x01, n * 2 ^ 4 + (if divider = 4 then 3 else 0) * 2 ^ 2 + p1 / 2 ^ 16, p1 / 2 ^ 8 % 2 ^ 8,
        p1 % 2 ^ 8, 0x00, 0x00, 0x00]

/-- R107, R103: divider 4 gives 00 01 ((n << 4) | 0x0C) 00 00 00 00 00 for every accepted r, whose exponent is n;
any other divider leaves bits 3:2 of B[2] at 0. -/
def Obligations.DivideByFourBlock : Prop :=
  (∀ (n r z : Nat) (s : State), 2 ^ n ≤ r → r < 2 ^ (n + 1) → n ≤ 15 → (s.params.rPolicy = .floor ∨ r = 2 ^ n) →
    ∃ t, exec (.encMs 4 r z) s = .next t ∧
    HoldsLanes t [0x00, 0x01, n * 2 ^ 4 + 0x0C, 0x00, 0x00, 0x00, 0x00, 0x00]) ∧
  (∀ (divider r z : Nat) (s t : State) (B : Block), divider ≠ 4 → exec (.encMs divider r z) s = .next t →
    t.out = .result (.ok B) → B.b2.toNat / 4 % 4 = 0)

/-- R62: for ENC_MS the field Z of the request word is a don't-care. -/
def Obligations.MsIgnoresZ : Prop :=
  ∀ (w w' : Request) (s : State), w.op = 1 → w'.op = 1 → w.x = w'.x → w.y = w'.y →
    exec (decode w) s = exec (decode w') s

/-- R109: DecodeMs gives the divider back, and under STRICT also r; under FLOOR r is known up to its exponent. -/
def Obligations.MsRecoverable : Prop :=
  ∀ (divider r z : Nat) (s t : State) (B : Block), exec (.encMs divider r z) s = .next t → t.out = .result (.ok B) →
    ∃ F n, decodeMs B = some F ∧ recoverMs F = (divider, n) ∧ 128 * divider = F.p1.toNat + 512 ∧ n = F.n.toNat ∧
      2 ^ n ≤ r ∧ r < 2 ^ (n + 1) ∧ (s.params.rPolicy = .strict → r = 2 ^ n)

/-! ## Both operations -/

/-- R121, R122: the code on ERR is that of the first cause, in the order of R122, and 0 where there is none. -/
def Obligations.ErrorPriority : Prop :=
  (∀ (a b c : Nat) (s : State), ∃ t, exec (.encPll a b c) s = .next t ∧
    (t.readErr = .ok 1 ↔ c = 0) ∧
    (t.readErr = .ok 2 ↔ 2 ^ 20 ≤ c) ∧
    (t.readErr = .ok 3 ↔ c ≠ 0 ∧ c < 2 ^ 20 ∧ c ≤ b) ∧
    (t.readErr = .ok 4 ↔ c < 2 ^ 20 ∧ b < c ∧ (a < 4 ∨ 2051 < a)) ∧
    (t.readErr = .ok 0 ↔ c < 2 ^ 20 ∧ b < c ∧ 4 ≤ a ∧ a ≤ 2051)) ∧
  (∀ (divider r z : Nat) (s : State), ∃ t, exec (.encMs divider r z) s = .next t ∧
    (t.readErr = .ok 4 ↔ (divider < 4 ∨ 2051 < divider)) ∧
    (t.readErr = .ok 5 ↔ 4 ≤ divider ∧ divider ≤ 2051 ∧ r = 0) ∧
    (t.readErr = .ok 6 ↔ 4 ≤ divider ∧ divider ≤ 2051 ∧ r ≠ 0 ∧ s.params.rPolicy = .strict ∧ ¬ ∃ k, r = 2 ^ k) ∧
    (t.readErr = .ok 7 ↔ 4 ≤ divider ∧ divider ≤ 2051 ∧ 2 ^ 16 ≤ r ∧ (s.params.rPolicy = .floor ∨ ∃ k, r = 2 ^ k)) ∧
    (t.readErr = .ok 0 ↔ 4 ≤ divider ∧ divider ≤ 2051 ∧ r ≠ 0 ∧ r < 2 ^ 16 ∧
      (s.params.rPolicy = .floor ∨ ∃ k, r = 2 ^ k)))

/-- R120: every request ends in exactly one result, `Ok` with ERR 0 and eight readable lanes, or `Err` with ERR the
code, which is not 0. -/
def Obligations.OneResultPerRequest : Prop :=
  ∀ (i : Instr) (s : State), ∃ t, exec i s = .next t ∧
    ((∃ B, t.out = .result (.ok B) ∧ t.readErr = .ok 0 ∧ ∀ k, t.readLane k = .ok (B.lane k)) ∨
     (∃ e, t.out = .result (.err e) ∧ t.readErr = .ok e.code ∧ e.code ≠ 0))

/-- R123: on `Err` every lane is driven with 0x00, and a consumer that reads a lane or the flattened word faults. -/
def Obligations.ErrLanesHaveNoValue : Prop :=
  ∀ (i : Instr) (s t : State) (e : ErrCode), exec i s = .next t → t.out = .result (.err e) →
    t.readErr = .ok e.code ∧ ∀ k, (Result.err e).wires.lane k = 0 ∧ t.readLane k = .error .laneOnErr ∧
      t.readDout = .error .laneOnErr

/-- R65: lane k is bits 8k+7 to 8k of the flattened word. -/
def Obligations.FlattenedWord : Prop :=
  ∀ (s : State) (B : Block), s.out = .result (.ok B) → ∃ d, s.readDout = .ok d ∧
    ∀ k : Fin 8, s.readLane k = .ok (d.extractLsb' (8 * k.val) 8)

/-- R20, R25, R47: the frame of ENC_PLL and ENC_MS. Whatever the operands, the operation changes the output ports alone:
no input port, no strobe, nothing in flight, nothing of the consumer, no byte of the device, and no PLL's start. -/
def Obligations.OperationFrame : Prop :=
  ∀ (i : Instr) (s t : State), exec i s = .next t →
    t.params = s.params ∧ t.op = s.op ∧ t.x = s.x ∧ t.y = s.y ∧ t.z = s.z ∧ t.rst = s.rst ∧ t.req = s.req ∧
    t.rsp = s.rsp ∧ t.inFlight = s.inFlight ∧ t.consumer = s.consumer ∧ t.program = s.program ∧
    t.transport = s.transport ∧ t.reports = s.reports ∧ (∀ a, t.device.read a = s.device.read a) ∧
    t.startA = s.startA ∧ t.startB = s.startB

/-- R32: a result depends on the operation, its operands and R_POLICY alone (for ENC_PLL not even on R_POLICY): nothing
else in the state, whatever came before, shows in it. -/
def Obligations.ResultIsAFunctionOfRequest : Prop :=
  ∀ (w w' : Request) (s s' : State), w.op = w'.op → w.x = w'.x → w.y = w'.y → (w.op = 0 → w.z = w'.z) →
    (w.op = 1 → s.params.rPolicy = s'.params.rPolicy) →
    ∃ t t', exec (decode w) s = .next t ∧ exec (decode w') s' = .next t' ∧ t.out = t'.out

/-! ## The step -/

/-- With LATENCY 0, a bare request on the ports is run in one step (R22, R148): the step is exec of the operation its
word decodes to. The second clause is the model's choice (log 19, for R51 says that there is no fetch): withFetchWord stands
for the requester that drives a word on the ports, and the next step runs exactly that request. -/
def Obligations.StepRunsRequest : Prop :=
  (∀ s : State, BareRequest s → s.params.latency = 0 → step s = exec (decode s.request) s) ∧
  (∀ (s : State) (nbits w : Nat) (i : Instr), s.params.latency = 0 → decodeTableWord nbits w = some i →
    step (s.withFetchWord nbits w) = exec i (s.withFetchWord nbits w))

/-- That the step after a word is placed is the cycle of its response is the model's choice (log 19): with LATENCY > 0
withFetchWord makes the word the one request in flight, due in the next cycle. Given that, R141 and R32: RSP is asserted and
the outputs are the result of the operation the word decodes to. -/
def Obligations.StepAnswersPlacedRequest : Prop :=
  ∀ (s : State) (nbits w : Nat) (i : Instr), s.params.latency ≠ 0 → decodeTableWord nbits w = some i →
    ∃ t, step (s.withFetchWord nbits w) = .next t ∧ t.rsp = true ∧
      exec i s = .next (s.setOut t.out) ∧ t.device = s.device

/-- R68, with LATENCY 0 (SetupCallCycles is for LATENCY > 0): a step that begins SETUP_PLL or SETUP_MS presents its request
word on the ports, runs exec of the operation it decodes to, and then the consumer takes the response. That the ignored Z of
the ENC_MS request is 0 is the model's choice (log 18). -/
def Obligations.StepRunsCalledRequest : Prop :=
  ∀ (s : State) (cs : List Call), s.consumer = .ready → s.params.latency = 0 →
    (∀ pll a b c, s.program = .setupPll pll a b c :: cs →
      step s = andThen (exec (.encPll a.toNat b.toNat c.toNat)
        ((s.setProgram cs).present (.pll pll) (Request.make 0 a b c))) (fun t => takeResponse (t.setReq false))) ∧
    (∀ pin divider r, s.program = .setupMs pin divider r :: cs →
      step s = andThen (exec (.encMs divider.toNat r.toNat 0)
        ((s.setProgram cs).present (.ms pin) (Request.make 1 divider r 0))) (fun t => takeResponse (t.setReq false)))

/-- R141: with LATENCY L > 0, a request strobed into an empty pipeline is answered L cycles later and not before, by RSP and
the result of the request. The first clause keeps REQ asserted in every cycle; in the second REQ lasts one cycle, and RSP is
asserted for that one cycle alone. That the outputs keep what they held in every other cycle is the model's choice (log 14). -/
def Obligations.ResponseAfterLatency : Prop :=
  ∀ s : State, BareRequest s → s.params.latency ≠ 0 → s.rst = false → s.req = true → s.inFlight = [] →
    ((∀ k, 0 < k → k < s.params.latency → ∃ t, steps k s = .next t ∧ t.rsp = false ∧ t.out = s.out) ∧
     (∃ t, steps s.params.latency s = .next t ∧ t.rsp = true ∧
       t.out = .result (resultOf s.params.rPolicy (decode s.request)))) ∧
    (∃ u, step s = .next u ∧ ∀ k, ∃ t, steps k (u.setReq false) = .next t ∧
      (t.rsp = true ↔ k + 1 = s.params.latency) ∧
      t.out = if k + 1 < s.params.latency then s.out else .result (resultOf s.params.rPolicy (decode s.request)))

/-- R141: a cycle with RST asserted leaves RSP 0 and outputs whose every read faults. That nothing stays in flight is the
model's choice (log 14). -/
def Obligations.ClockedResetClears : Prop :=
  ∀ s : State, BareRequest s → s.params.latency ≠ 0 → s.rst = true →
    ∃ t, step s = .next t ∧ t.rsp = false ∧ t.inFlight = [] ∧ t.readErr = .error .outputHasNoValue ∧
      ∀ k, t.readLane k = .error .outputHasNoValue

/-- R144: a request due in this cycle whose operands moved, now or in an earlier cycle, leaves outputs whose every read
faults; one that was held is answered by its own result (R141), in spite of what else is in flight. That RSP is asserted for
moved operands too, and which cycles the ports are compared in, is the model's reading (log 15); that the Z which ENC_MS
ignores is compared with the rest of the word is its choice (log 25). -/
def Obligations.OperandsMustBeHeld : Prop :=
  ∀ (s : State) (f : Flight) (fs : List Flight), BareRequest s → s.params.latency ≠ 0 → s.rst = false →
    s.inFlight = f :: fs → f.left = 1 →
    (f.held = false ∨ f.request ≠ s.request → ∃ t, step s = .next t ∧ t.rsp = true ∧
      t.readErr = .error .outputHasNoValue ∧ ∀ k, t.readLane k = .error .outputHasNoValue) ∧
    (f.held = true → f.request = s.request → ∃ t, step s = .next t ∧ t.rsp = true ∧
      t.out = .result (resultOf s.params.rPolicy (decode f.request)))

/-! ## The consumer and the device -/

/-- R127: a setup call whose request ends in `Err(code)` writes nothing to the device, reports the error with its code,
and stops the program (R68), which is no retry. The first clause is what the consumer makes of the response when it is there;
the second is the whole call: one step with LATENCY 0, and LATENCY cycles with an empty pipeline and RST low otherwise. -/
def Obligations.ErrStopsTheProgram : Prop :=
  (∀ (s : State) (g : Target) (e : ErrCode), s.consumer = .awaiting g → s.responded = true → s.out = .result (.err e) →
    ∃ t, takeResponse s = .next t ∧ t.device = s.device ∧ t.transport = s.transport ∧ t.program = [] ∧
      t.consumer = .ready ∧ t.reports = s.reports ++ [.rangeError e]) ∧
  ∀ (s : State) (cs : List Call) (e : ErrCode), s.consumer = .ready →
    (s.params.latency = 0 ∨ s.rst = false ∧ s.inFlight = []) →
    ((∃ pll a b c, s.program = .setupPll pll a b c :: cs ∧
        resultOf s.params.rPolicy (.encPll a.toNat b.toNat c.toNat) = .err e) ∨
     (∃ pin divider r, s.program = .setupMs pin divider r :: cs ∧
        resultOf s.params.rPolicy (.encMs divider.toNat r.toNat 0) = .err e)) →
    ∃ t, steps (max 1 s.params.latency) s = .next t ∧ t.device = s.device ∧ t.transport = s.transport ∧ t.program = [] ∧
      t.consumer = .ready ∧ t.reports = s.reports ++ [.rangeError e]

/-- R68, R141: a setup call with LATENCY L > 0, an empty pipeline and RST low. In the cycles before L its one request is in
flight with its operands held, REQ is low again, RSP is 0 and the consumer awaits its target; in cycle L RSP is asserted with
the result of the request, and the consumer goes on to the burst, or stops with the error's code. The device is untouched
throughout. The ignored Z (log 18), outputs kept between (log 14) and whose RSP it is (log 23) are the model's choices. -/
def Obligations.SetupCallCycles : Prop :=
  ∀ (s : State) (cs : List Call) (g : Target) (w : Request), s.consumer = .ready → s.params.latency ≠ 0 → s.rst = false →
    s.inFlight = [] →
    ((∃ pll a b c, s.program = .setupPll pll a b c :: cs ∧ g = .pll pll ∧ w = Request.make 0 a b c) ∨
     (∃ pin divider r, s.program = .setupMs pin divider r :: cs ∧ g = .ms pin ∧ w = Request.make 1 divider r 0)) →
    (∀ k, 0 < k → k < s.params.latency → ∃ t, steps k s = .next t ∧ t.consumer = .awaiting g ∧ t.program = cs ∧
      t.request = w ∧ t.req = false ∧ t.rsp = false ∧ t.inFlight = [⟨w, s.params.latency - k, true⟩] ∧ t.out = s.out ∧
      t.reports = s.reports ∧ t.transport = s.transport ∧ t.device = s.device) ∧
    ∃ t, steps s.params.latency s = .next t ∧ t.request = w ∧ t.req = false ∧ t.rsp = true ∧ t.inFlight = [] ∧
      t.out = .result (resultOf s.params.rPolicy (decode w)) ∧ t.transport = s.transport ∧ t.device = s.device ∧
      match resultOf s.params.rPolicy (decode w) with
      | .ok _ => t.consumer = .bursting g ∧ t.program = cs ∧ t.reports = s.reports
      | .err e => t.consumer = .ready ∧ t.program = [] ∧ t.reports = s.reports ++ [.rangeError e]

/-- R68, R44, R45, R26: SETUP_PLL on accepted operands and a transport that reports success leaves the three fields in the
eight registers of the PLL's block, most significant part first, with bits 3:2 of base + 2 zero and p3[19:16] a second time
at base + 5, every other register as before, and the call reported done: the cycles of the request (one step with LATENCY 0)
and one step for the burst. With LATENCY > 0 the pipeline is empty and RST low when the call begins. -/
def Obligations.SetupPllWritesBlock : Prop :=
  ∀ (s : State) (pll : Pll) (a b c : Word) (cs : List Call) (rs : List BusReport) (p1 p2 base : Nat),
    s.consumer = .ready → (s.params.latency = 0 ∨ s.rst = false ∧ s.inFlight = []) →
    s.program = .setupPll pll a b c :: cs → s.transport = .success :: rs →
    b.toNat < c.toNat → c.toNat < 2 ^ 20 → 4 ≤ a.toNat → a.toNat ≤ 2051 →
    p1 + 512 = 128 * a.toNat + 128 * b.toNat / c.toNat → p2 = 128 * b.toNat % c.toNat →
    base = (match pll with | .a => 26 | .b => 34) →
    ∃ t, steps (max 1 s.params.latency + 1) s = .next t ∧ CallDone s t cs rs ∧
      (∃ v0 v1 v2 v3 v4 v5 v6 v7 : Byte,
        t.device.read (BitVec.ofNat 8 base) = some v0 ∧ t.device.read (BitVec.ofNat 8 (base + 1)) = some v1 ∧
        t.device.read (BitVec.ofNat 8 (base + 2)) = some v2 ∧ t.device.read (BitVec.ofNat 8 (base + 3)) = some v3 ∧
        t.device.read (BitVec.ofNat 8 (base + 4)) = some v4 ∧ t.device.read (BitVec.ofNat 8 (base + 5)) = some v5 ∧
        t.device.read (BitVec.ofNat 8 (base + 6)) = some v6 ∧ t.device.read (BitVec.ofNat 8 (base + 7)) = some v7 ∧
        c.toNat = v2.toNat / 2 ^ 4 * 2 ^ 16 + v0.toNat * 2 ^ 8 + v1.toNat ∧
        p1 = v2.toNat % 2 ^ 2 * 2 ^ 16 + v3.toNat * 2 ^ 8 + v4.toNat ∧
        p2 = v5.toNat % 2 ^ 4 * 2 ^ 16 + v6.toNat * 2 ^ 8 + v7.toNat ∧
        v2.toNat / 2 ^ 2 % 2 ^ 2 = 0 ∧ v5.toNat / 2 ^ 4 = c.toNat / 2 ^ 16) ∧
      ∀ x : Byte, x.toNat < base ∨ base + 7 < x.toNat → t.device.read x = s.device.read x

/-- R68, R44, R106: SETUP_MS on accepted operands, under FLOOR those that are no power of two too, and a transport that
reports success leaves the eight bytes of its result in the registers of the channel's block, every other register as
before, and the call reported done: the cycles of the request (one step with LATENCY 0) and one step for the burst. With
LATENCY > 0 the pipeline is empty and RST low when the call begins. -/
def Obligations.SetupMsWritesBlock : Prop :=
  ∀ (s : State) (pin : Pin) (divider r : Word) (n p1 base : Nat) (cs : List Call) (rs : List BusReport),
    s.consumer = .ready → (s.params.latency = 0 ∨ s.rst = false ∧ s.inFlight = []) →
    s.program = .setupMs pin divider r :: cs → s.transport = .success :: rs →
    4 ≤ divider.toNat → divider.toNat ≤ 2051 → 2 ^ n ≤ r.toNat → r.toNat < 2 ^ (n + 1) → n ≤ 15 →
    (s.params.rPolicy = .floor ∨ r.toNat = 2 ^ n) → p1 = 128 * divider.toNat - 512 → base = 42 + 8 * pin.val →
    ∃ t, steps (max 1 s.params.latency + 1) s = .next t ∧ CallDone s t cs rs ∧
      (∀ (k : Fin 8) (v : Nat),
        [0x00, 0x01, n * 2 ^ 4 + (if divider.toNat = 4 then 3 else 0) * 2 ^ 2 + p1 / 2 ^ 16, p1 / 2 ^ 8 % 2 ^ 8,
          p1 % 2 ^ 8, 0x00, 0x00, 0x00][k.val]? = some v →
        t.device.read (BitVec.ofNat 8 (base + k.val)) = some (BitVec.ofNat 8 v)) ∧
      ∀ x : Byte, x.toNat < base ∨ base + 7 < x.toNat → t.device.read x = s.device.read x

/-- R41, R42: the register of lane k of a target's burst is one the map names for that target's parameter block, and every
register the map names for a block is that of exactly one lane, so the five blocks are disjoint and contiguous. -/
def Obligations.RegisterMapOfBursts : Prop :=
  (∀ (g : Target) (k : Fin 8), purposeOf (blockRegister g k) = .parameterBlock g) ∧
  (∀ (a : Byte) (g : Target), purposeOf a = .parameterBlock g →
    ∃ k, a = blockRegister g k ∧ a.toNat = (blockBase g).toNat + k.val ∧ ∀ k', a = blockRegister g k' → k' = k)

/-- R44: a burst reported as successful writes byte lane k to register base + k, and no other register. -/
def Obligations.BurstWritesItsLanes : Prop :=
  ∀ (s : State) (g : Target) (B : Block) (rs : List BusReport), s.consumer = .bursting g → s.op = targetOp g →
    s.out = .result (.ok B) → s.transport = .success :: rs →
    ∃ t, step s = .next t ∧ CallDone s t s.program rs ∧
      (∀ k, t.device.read (blockRegister g k) = some (B.lane k)) ∧
      (∀ x, (∀ k, x ≠ blockRegister g k) → t.device.read x = s.device.read x) ∧
      t.params = s.params ∧ t.op = s.op ∧ t.x = s.x ∧ t.y = s.y ∧ t.z = s.z ∧ t.out = s.out ∧
      t.startA = s.startA ∧ t.startB = s.startB

/-- R48, R128: after a burst reported as failed each register of the block holds its old value or its new byte, as the
report says of each; every other register is as before, and the caller is told of a transport failure. -/
def Obligations.FailedBurstOldOrNew : Prop :=
  ∀ (s : State) (g : Target) (B : Block) (landed : BitVec 8) (rs : List BusReport), s.consumer = .bursting g →
    s.op = targetOp g → s.out = .result (.ok B) → s.transport = .failed landed :: rs →
    ∃ t, step s = .next t ∧ t.consumer = .ready ∧ t.transport = rs ∧ t.reports = s.reports ++ [.transportFailure] ∧
      (∀ k : Fin 8, t.device.read (blockRegister g k) =
        if landed.getLsbD k.val then some (B.lane k) else s.device.read (blockRegister g k)) ∧
      (∀ x, (∀ k, x ≠ blockRegister g k) → t.device.read x = s.device.read x)

/-- R52: writing a block again with the same bytes leaves the same register contents. -/
def Obligations.RewriteChangesNothing : Prop :=
  ∀ (s : State) (g : Target) (B : Block) (rs : List BusReport), s.consumer = .bursting g → s.op = targetOp g →
    s.out = .result (.ok B) → s.transport = .success :: .success :: rs →
    ∃ t u, step s = .next t ∧ step (t.setConsumer (.bursting g)) = .next u ∧
      ∀ x, u.device.read x = t.device.read x

/-- R43: a result is written only to a block of its own kind. The spec gives the other use no meaning (93 U18), and the
step refuses it; the refusal by name, and that a result's kind is read from port OP, are the model's choice (log 17). Only
states that ConsumerSound rules out, which no run from power-up reaches, meet the hypotheses. -/
def Obligations.WrongKindIsRefused : Prop :=
  ∀ (s : State) (g : Target), s.consumer = .bursting g → s.op ≠ targetOp g → step s = .refused .wrongBlockKind

/-- Log 7, the model's choice for a transport that has not reported yet: the consumer blocks (R49), and the step changes
nothing. -/
def Obligations.ConsumerBlocksOnTransport : Prop :=
  ∀ (s : State), s.transport = [] →
    (∀ m, s.consumer = .reading m → step s = .next s) ∧
    (∀ w ws, s.consumer = .writing (w :: ws) → step s = .next s) ∧
    (∀ g B, s.consumer = .bursting g → s.op = targetOp g → s.out = .result (.ok B) → step s = .next s)

/-- R143: initialize() writes, in this order, 0xFF to register 3, 0x80 to registers 16, 17 and 18, the power-up table
entry by entry, and 0xA0 to register 177. With every write acknowledged, the device after k + 1 steps holds exactly the first
k of these writes made in order, for every k up to their number, and then the call is reported done. Both PLLs start, at the
last write, from the settings the device then holds in their blocks (R146). That a register keeps the byte written, 177 too,
is the model's choice (log 21), and so is the form in which it holds a PLL's start (log 24). -/
def Obligations.InitDeviceOrder : Prop :=
  ∀ (s : State) (table : List (Byte × Byte)) (cs : List Call) (rs : List BusReport), s.consumer = .ready →
    s.program = .initDevice table :: cs → s.transport = List.replicate (table.length + 5) .success ++ rs →
    (∀ k, k ≤ table.length + 5 → ∃ u, steps (k + 1) s = .next u ∧ u.reports = s.reports ∧
      u.device = (([(3, 0xFF), (16, 0x80), (17, 0x80), (18, 0x80)] ++ table ++ [(177, 0xA0)]).take k).foldl
        (fun m (w : Byte × Byte) => m.write w.1 w.2) s.device) ∧
    ∃ t, steps (table.length + 7) s = .next t ∧ CallDone s t cs rs ∧
      t.device = ([(3, 0xFF), (16, 0x80), (17, 0x80), (18, 0x80)] ++ table ++ [(177, 0xA0)]).foldl
        (fun m (w : Byte × Byte) => m.write w.1 w.2) s.device ∧
      ∀ p, t.start p = some (blockSettings (.pll p) t.device)

/-- R143, R128: a failure on a single write of a sequence aborts the rest of it and is surfaced to the caller; the
register written holds its old value or the new byte (log 8), and no other register changes. -/
def Obligations.FailedWriteAborts : Prop :=
  ∀ (s : State) (w : Byte × Byte) (ws : List (Byte × Byte)) (landed : BitVec 8) (rs : List BusReport),
    s.consumer = .writing (w :: ws) → s.transport = .failed landed :: rs →
    ∃ t, step s = .next t ∧ t.consumer = .ready ∧ t.transport = rs ∧ t.reports = s.reports ++ [.transportFailure] ∧
      (t.device.read w.1 = some w.2 ∨ t.device.read w.1 = s.device.read w.1) ∧
      ∀ x, x ≠ w.1 → t.device.read x = s.device.read x

/-- R143: resetPLL writes register 177 with bit 7 alone for PLL A, or bit 5 alone for PLL B, and nothing else; three
steps with the write acknowledged. That register 177 holds the bit after the write is the model's choice (log 21): R50 calls
it a pulse. -/
def Obligations.ResetPllWritesItsBit : Prop :=
  ∀ (s : State) (pll : Pll) (cs : List Call) (rs : List BusReport), s.consumer = .ready →
    s.program = .resetPll pll :: cs → s.transport = .success :: rs →
    ∃ t, steps 3 s = .next t ∧ CallDone s t cs rs ∧
      t.device.read 177 = some (match pll with | .a => 0x80 | .b => 0x20) ∧
      ∀ x, x ≠ 177 → t.device.read x = s.device.read x

/-- R146: resetPLL makes its PLL start from the settings in its block's eight registers, and the other PLL's start is as it
was. A burst to a PLL's block afterwards changes no start; where it leaves the block with another byte than the PLL started
from, the model says of no settings that the PLL runs from them, as R146 asks. How a start is held is the model's choice
(log 24). -/
def Obligations.ResetStartsPllFromItsBlock : Prop :=
  (∀ (s : State) (pll : Pll) (cs : List Call) (rs : List BusReport), s.consumer = .ready →
    s.program = .resetPll pll :: cs → s.transport = .success :: rs →
    ∃ t l, steps 3 s = .next t ∧ t.start pll = some l ∧ t.runsFrom pll = some l ∧ l.length = 8 ∧
      (∀ k : Fin 8, l[k.val]? = some (s.device.read (blockRegister (.pll pll) k))) ∧
      ∀ q, q ≠ pll → t.start q = s.start q) ∧
  (∀ (s : State) (pll : Pll) (B : Block) (r : BusReport) (rs : List BusReport), s.consumer = .bursting (.pll pll) →
    s.op = targetOp (.pll pll) → s.out = .result (.ok B) → s.transport = r :: rs →
    ∃ t, step s = .next t ∧ (∀ q, t.start q = s.start q) ∧
      ∀ (l : Settings) (k : Fin 8), s.start pll = some l →
        l[k.val]? ≠ some (t.device.read (blockRegister (.pll pll) k)) → t.runsFrom pll = none)

/-- R50, R146: no step changes what a PLL started from except the consumer's write of register 177 with that PLL's bit, 7
for A and 5 for B, and the PLL then starts from the settings in its block. How a start is held is the model's choice
(log 24). -/
def Obligations.OnlyResetStartsPll : Prop :=
  ∀ (s t : State) (p : Pll), step s = .next t → t.start p ≠ s.start p →
    t.start p = some (blockSettings (.pll p) s.device) ∧ ∃ w ws, s.consumer = .writing (w :: ws) ∧ w.1 = 177 ∧
      w.2.getLsbD (match p with | .a => 7 | .b => 5) = true

/-- R50: the controller's read-modify-writes, from the call on, four steps with both accesses acknowledged. setupPower
overwrites bits 1:0 of its output's register with the level and keeps the other 6; enableShutDown writes bit 7 alone, 1 =
powered down; enableOutput writes its output's bit of register 3 alone, 1 = disabled, so every other output's bit stays. No
other register changes. The sense of the two arguments is presumed (log 11); the byte read is the register's, or the free
power-on value where nothing has written it (log 6); which bit of register 3 is an output's is free (log 12). -/
def Obligations.ReadModifyWrite : Prop :=
  ∀ (s : State) (pin : Pin) (cs : List Call) (rs : List BusReport), s.consumer = .ready →
    s.transport = .success :: .success :: rs →
    (∀ level, s.program = .setupPower pin level :: cs → ∃ t v old, steps 4 s = .next t ∧ CallDone s t cs rs ∧
      WritesOnly s t (BitVec.ofNat 8 (16 + pin.val)) v ∧ old = busValue s (BitVec.ofNat 8 (16 + pin.val)) ∧
      v.toNat % 4 = level.toNat ∧ v.toNat / 4 = old.toNat / 4) ∧
    (∀ down, s.program = .enableShutDown pin down :: cs → ∃ t v old, steps 4 s = .next t ∧ CallDone s t cs rs ∧
      WritesOnly s t (BitVec.ofNat 8 (16 + pin.val)) v ∧ old = busValue s (BitVec.ofNat 8 (16 + pin.val)) ∧
      v.toNat / 128 = (if down then 1 else 0) ∧ v.toNat % 128 = old.toNat % 128) ∧
    (∀ enable, s.program = .enableOutput pin enable :: cs → ∃ t v old, steps 4 s = .next t ∧ CallDone s t cs rs ∧
      WritesOnly s t 3 v ∧ old = busValue s 3 ∧
      (∀ i : Fin 8, v.getLsbD i.val = if i = Config.disableBit pin then !enable else old.getLsbD i.val) ∧
      ∀ other, other ≠ pin → v.getLsbD (Config.disableBit other).val = old.getLsbD (Config.disableBit other).val)

/-- R128, R147: where the read of setupPower, enableShutDown or enableOutput fails, the call ends after two steps: no write
follows, no register changes, and the caller is told of a transport failure. That a failed read gives no value and ends its
call is the model's choice (log 8), and so is that the program's next calls stay to be run (log 10). -/
def Obligations.FailedReadEndsCall : Prop :=
  ∀ (s : State) (pin : Pin) (cs : List Call) (landed : BitVec 8) (rs : List BusReport), s.consumer = .ready →
    s.transport = .failed landed :: rs →
    ((∃ level, s.program = .setupPower pin level :: cs) ∨ (∃ down, s.program = .enableShutDown pin down :: cs) ∨
     (∃ enable, s.program = .enableOutput pin enable :: cs)) →
    ∃ t, steps 2 s = .next t ∧ t.consumer = .ready ∧ t.program = cs ∧ t.transport = rs ∧
      t.reports = s.reports ++ [.transportFailure] ∧ t.device = s.device ∧ ∀ p, t.start p = s.start p

/-! ## Invariants -/

/-- R140, R141, R142: at power-up with any parameters every invariant below holds, no device register holds a known
value, no request is in flight and RSP is 0; with LATENCY > 0 reading the outputs faults. The zeros on the input ports,
and so the E_DIV_ZERO they give with LATENCY 0, are the model's choice (log 1). -/
def Obligations.PowerUpState : Prop :=
  State.reset = State.powerUp ⟨.strict, 0⟩ ∧ ∀ p : Params,
    Combinational (State.powerUp p) ∧ PipelineOrdered (State.powerUp p) ∧ ConsumerSound (State.powerUp p) ∧
    DeviceWf (State.powerUp p) ∧ (State.powerUp p).rsp = false ∧ (State.powerUp p).inFlight = [] ∧
    (∀ a, (State.powerUp p).device.read a = none) ∧
    (p.latency ≠ 0 → (State.powerUp p).readErr = .error .outputHasNoValue)

/-- R20, R140: with LATENCY 0 every step keeps the outputs a function of the inputs. -/
def Obligations.StepKeepsCombinational : Prop :=
  ∀ s t : State, Combinational s → step s = .next t → Combinational t

/-- R141: every step keeps the pipeline ordered, each request in flight within LATENCY cycles of its response. -/
def Obligations.StepKeepsPipelineOrdered : Prop :=
  ∀ s t : State, PipelineOrdered s → step s = .next t → PipelineOrdered t

/-- R43, R144: every step keeps the consumer sound: what it awaits and what it bursts is of its target's kind, and it
holds its operands. -/
def Obligations.StepKeepsConsumerSound : Prop :=
  ∀ s t : State, ConsumerSound s → step s = .next t → ConsumerSound t

/-- R40: every step keeps the device's registers in canonical form, so equal contents are equal data. -/
def Obligations.StepKeepsDeviceWf : Prop :=
  ∀ s t : State, DeviceWf s → step s = .next t → DeviceWf t

/-- R120, R124: where the consumer is sound no step faults or refuses, for any request, any program, any parameters and
whatever the transport reports. -/
def Obligations.SoundStepGoesOn : Prop := ∀ s : State, ConsumerSound s → StepGoesOn s

/-- R31, R4: R_POLICY and LATENCY are fixed parameters of an implementation. That the machine holds both in fields of State
which no step changes is the model's choice (log 3). -/
def Obligations.StepKeepsParameters : Prop := ∀ s t : State, step s = .next t → t.params = s.params

/-- R44, R47: the block's turn writes no register of the device, and no step writes one except the consumer's accesses: a
step changes a register's contents only while the consumer bursts its block or writes that register. That no register changes
by itself, so that 177 keeps its pulse bits, is the model's choice (log 21): R52 and R146 leave it open. -/
def Obligations.OnlyTheConsumerWrites : Prop :=
  ∀ (s t : State) (x : Byte), step s = .next t → t.device.read x ≠ s.device.read x →
    (∃ g k, s.consumer = .bursting g ∧ x = blockRegister g k) ∨ (∃ w ws, s.consumer = .writing (w :: ws) ∧ x = w.1)
end

