-- ==== Sys2Proof/Laws/Fields.lean ====
section
/-! SUPPORT. The fields of a block on integers, what the two encoders accept, and the reference decodes of a packed block. -/

namespace Sys2Proof.Machine

/-- The intermediate f of a proper fraction is below 128 (R80). -/
theorem pllF_lt {b c : Nat} (h : b < c) : pllF b c < 128 := by
  unfold pllF
  rw [Nat.div_lt_iff_lt_mul (by omega)]
  omega

/-- `p2` is the remainder of 128 b by c (R87). -/
theorem pllP2_eq (b c : Nat) : pllP2 b c = ((128 * b % c : Nat) : Int) := by
  have h : (c : Int) * ((128 * b / c : Nat) : Int) + ((128 * b % c : Nat) : Int) = 128 * (b : Int) := by
    exact_mod_cast Nat.div_add_mod (128 * b) c
  unfold pllP2 pllF
  linarith

/-- The range check of ENC_PLL on p1 is the range 4 .. 2051 of a (R86). -/
theorem pllP1_out_iff {b c : Nat} (a : Nat) (h : b < c) :
    (pllP1 a b c < 0 ∨ pllP1 a b c > 2 ^ 18 - 1) ↔ (a < 4 ∨ 2051 < a) := by
  have := pllF_lt h
  unfold pllP1
  omega

/-- What ENC_PLL accepts, and the block it then gives (R84, R85). -/
theorem encodePll_ok {a b c : Nat} (hc : c < 2 ^ 20) (hb : b < c) (ha : 4 ≤ a ∧ a ≤ 2051) :
    encodePll a b c = .ok (packFields (pllP1 a b c) (pllP2 b c) (pllP3 c) 0 0) := by
  unfold encodePll
  rw [if_neg (by omega), if_neg (by omega), if_neg (by omega), if_neg]
  rw [pllP1_out_iff a hb]
  omega

/-- The cases of ENC_PLL, in the order of its checks (R122), with p1's check read on a (R86). -/
theorem encodePll_cases (a b c : Nat) :
    encodePll a b c =
      if c = 0 then .err .divZero
      else if 2 ^ 20 ≤ c then .err .p3Range
      else if c ≤ b then .err .fracRange
      else if a < 4 ∨ 2051 < a then .err .p1Range
      else .ok (packFields (pllP1 a b c) (pllP2 b c) (pllP3 c) 0 0) := by
  unfold encodePll raiseParamRangeError
  by_cases h0 : c = 0
  · rw [if_pos h0, if_pos h0]
  rw [if_neg h0, if_neg h0]
  by_cases h1 : 2 ^ 20 ≤ c
  · rw [if_pos (by omega), if_pos h1]
  rw [if_neg (by omega), if_neg h1]
  by_cases h2 : c ≤ b
  · rw [if_pos h2, if_pos h2]
  rw [if_neg h2, if_neg h2]
  simp only [pllP1_out_iff a (Nat.lt_of_not_le h2)]

/-- `r & (r - 1)` is 0 for a positive r exactly when r is a power of two (R105). -/
theorem notPow2_eq_false_iff {r : Nat} (h : r ≠ 0) : notPow2 r = false ↔ ∃ k, r = 2 ^ k := by
  simp only [notPow2, bne_eq_false_iff_eq]
  constructor
  · intro h0
    refine ⟨r.log2, ?_⟩
    by_contra hne
    have lo : 2 ^ r.log2 ≤ r := Nat.log2_self_le h
    have hi : r < 2 ^ (r.log2 + 1) := Nat.lt_log2_self
    have hb : (r &&& (r - 1)).testBit r.log2 = true := by
      rw [Nat.testBit_and]
      have t : ∀ v, 2 ^ r.log2 ≤ v → v < 2 ^ (r.log2 + 1) → v.testBit r.log2 = true := by
        intro v l u
        rw [Nat.testBit_eq_decide_div_mod_eq]
        have : v / 2 ^ r.log2 = 1 := by
          rw [Nat.div_eq_iff (Nat.two_pow_pos _)]
          rw [Nat.pow_succ] at u
          omega
        simp [this]
      rw [t r lo hi, t (r - 1) (by omega) (by omega), Bool.and_self]
    rw [h0] at hb
    simp at hb
  · rintro ⟨k, rfl⟩
    rw [Nat.and_two_pow_sub_one_eq_mod, Nat.mod_self]

/-- The bound on the exponent is a bound on r: n > N_MAX exactly from 2^16 on (R104). -/
theorem msExponent_gt_iff {r : Nat} (h : r ≠ 0) : msExponent r > Config.nMax ↔ 2 ^ 16 ≤ r := by
  rw [← Nat.le_log2 h]; rfl

/-- What ENC_MS accepts under either policy, and the block it then gives (R104, R105). -/
theorem encodeMs_ok {policy : RPolicy} {divider r : Nat} (hd : 4 ≤ divider ∧ divider ≤ 2051) (h0 : r ≠ 0)
    (hr : r < 2 ^ 16) (hp : policy = .floor ∨ ∃ k, r = 2 ^ k) :
    encodeMs policy divider r = .ok (packFields (msP1 divider) 0 1 (msExponent r) (divBy4Flag divider)) := by
  unfold encodeMs
  rw [if_neg (by omega), if_neg h0, if_neg, if_neg (by rw [msExponent_gt_iff h0]; omega)]
  rintro ⟨hs, hn⟩
  rcases hp with rfl | hk
  · cases hs
  · rw [(notPow2_eq_false_iff h0).2 hk] at hn; cases hn

/-- The third byte of a packed block, in its three parts (R26, R27). -/
theorem thirdByte_parts (u n : BitVec 4) (dv v : BitVec 2) :
    let b := (u.setWidth 8 <<< 4) ||| (n.setWidth 8 <<< 4) ||| (dv.setWidth 8 <<< 2) ||| v.setWidth 8
    b.extractLsb 7 4 = u ||| n ∧ b.extractLsb 3 2 = dv ∧ b.extractLsb 1 0 = v := by
  intro b
  refine ⟨?_, ?_, ?_⟩ <;> ext i hi <;> simp [b] <;> (interval_cases i <;> simp [BitVec.getLsbD_eq_getElem])

/-- The sixth byte of a packed block, in its two parts (R26). -/
theorem sixthByte_parts (u w : BitVec 4) :
    let b := (u.setWidth 8 <<< 4) ||| w.setWidth 8
    b.extractLsb 7 4 = u ∧ b.extractLsb 3 0 = w := by
  intro b
  refine ⟨?_, ?_⟩ <;> ext i hi <;> simp [b] <;> (interval_cases i <;> simp)

/-- The three slices of an 18-bit field give it back. -/
theorem slices18 (p : BitVec 18) : (p.extractLsb 17 16 ++ p.extractLsb 15 8 ++ p.extractLsb 7 0 : BitVec 18) = p := by
  apply BitVec.eq_of_toNat_eq
  have := p.isLt
  simp only [BitVec.toNat_append, BitVec.extractLsb_toNat]
  rw [← Nat.shiftLeft_add_eq_or_of_lt (by omega), ← Nat.shiftLeft_add_eq_or_of_lt (by omega)]
  simp only [Nat.shiftLeft_eq, Nat.shiftRight_eq_div_pow]
  omega

/-- The three slices of a 20-bit field give it back. -/
theorem slices20 (p : BitVec 20) : (p.extractLsb 19 16 ++ p.extractLsb 15 8 ++ p.extractLsb 7 0 : BitVec 20) = p := by
  apply BitVec.eq_of_toNat_eq
  have := p.isLt
  simp only [BitVec.toNat_append, BitVec.extractLsb_toNat]
  rw [← Nat.shiftLeft_add_eq_or_of_lt (by omega), ← Nat.shiftLeft_add_eq_or_of_lt (by omega)]
  simp only [Nat.shiftLeft_eq, Nat.shiftRight_eq_div_pow]
  omega

/-- DecodePll reads back the fields Pack packed into a PLL block (R64, R88). -/
theorem decodePll_pack (p1 : BitVec 18) (p2 p3 : BitVec 20) :
    decodePll (pack p1 p2 p3 0 0) = some ⟨p1, p2, p3⟩ := by
  obtain ⟨t1, t2, t3⟩ := thirdByte_parts (p3.extractLsb 19 16) 0 0 (p1.extractLsb 17 16)
  obtain ⟨h4, h5⟩ := sixthByte_parts (p3.extractLsb 19 16) (p2.extractLsb 19 16)
  have h1 : (pack p1 p2 p3 0 0).b2.extractLsb 7 4 = p3.extractLsb 19 16 := t1.trans BitVec.or_zero
  have h2 : (pack p1 p2 p3 0 0).b2.extractLsb 3 2 = 0 := t2
  have h3 : (pack p1 p2 p3 0 0).b2.extractLsb 1 0 = p1.extractLsb 17 16 := t3
  replace h4 : (pack p1 p2 p3 0 0).b5.extractLsb 7 4 = p3.extractLsb 19 16 := h4
  replace h5 : (pack p1 p2 p3 0 0).b5.extractLsb 3 0 = p2.extractLsb 19 16 := h5
  rw [decodePll, if_neg (fun h => h.elim (fun h => h (h1.trans h4.symm)) (fun h => h h2)), h1, h3, h5]
  exact congrArg some (by
    rw [PllFields.mk.injEq]
    exact ⟨slices18 p1, slices20 p2, slices20 p3⟩)

/-- DecodeMs reads back the fields Pack packed into a multisynth block (R64, R108). -/
theorem decodeMs_pack (p1 : BitVec 18) (n : BitVec 4) (dv : BitVec 2) :
    decodeMs (pack p1 0 1 n dv) = some ⟨p1, 0, 1, n, dv⟩ := by
  obtain ⟨t1, t2, t3⟩ := thirdByte_parts 0 n dv (p1.extractLsb 17 16)
  have h1 : (pack p1 0 1 n dv).b2.extractLsb 7 4 = n := t1.trans BitVec.zero_or
  have h2 : (pack p1 0 1 n dv).b2.extractLsb 3 2 = dv := t2
  have h3 : (pack p1 0 1 n dv).b2.extractLsb 1 0 = p1.extractLsb 17 16 := t3
  have hc : (pack p1 0 1 n dv).b0 = 0x00 ∧ (pack p1 0 1 n dv).b1 = 0x01 ∧ (pack p1 0 1 n dv).b5 = 0x00 ∧
      (pack p1 0 1 n dv).b6 = 0x00 ∧ (pack p1 0 1 n dv).b7 = 0x00 := by
    simp only [pack]
    decide
  obtain ⟨c0, c1, c5, c6, c7⟩ := hc
  have hn : ¬ ((pack p1 0 1 n dv).b0 ≠ 0x00 ∨ (pack p1 0 1 n dv).b1 ≠ 0x01 ∨ (pack p1 0 1 n dv).b5 ≠ 0x00 ∨
      (pack p1 0 1 n dv).b6 ≠ 0x00 ∨ (pack p1 0 1 n dv).b7 ≠ 0x00) := by
    rintro (h | h | h | h | h)
    exacts [h c0, h c1, h c5, h c6, h c7]
  rw [decodeMs, if_neg hn, h1, h2, h3]
  exact congrArg some (by
    rw [MsFields.mk.injEq]
    exact ⟨slices18 p1, rfl, rfl, rfl, rfl⟩)

/-- A field that fits its width keeps its value (R28). -/
theorem toNat_ofInt_of_fits {w : Nat} {v : Int} {n : Nat} (h : v = n) (hn : n < 2 ^ w) : (BitVec.ofInt w v).toNat = n := by
  subst h
  rw [BitVec.ofInt_natCast, BitVec.toNat_ofNat, Nat.mod_eq_of_lt hn]

/-- The round-trip law (R89): DecodePll of the block of an accepted request gives the fields of R81 to R83. -/
theorem decodePll_packFields {a b c : Nat} (hc : c < 2 ^ 20) (hb : b < c) (ha : 4 ≤ a ∧ a ≤ 2051) :
    ∃ F, decodePll (packFields (pllP1 a b c) (pllP2 b c) (pllP3 c) 0 0) = some F ∧
      (F.p1.toNat : Int) = pllP1 a b c ∧ (F.p2.toNat : Int) = pllP2 b c ∧ (F.p3.toNat : Int) = pllP3 c := by
  have hf := pllF_lt hb
  have hm := Nat.mod_lt (128 * b) (show c > 0 by omega)
  have h1 : pllP1 a b c = ((128 * a + pllF b c - 512 : Nat) : Int) := by unfold pllP1; omega
  refine ⟨_, decodePll_pack _ _ _, ?_, ?_, ?_⟩
  · rw [toNat_ofInt_of_fits h1 (by omega), h1]
  · rw [toNat_ofInt_of_fits (pllP2_eq b c) (by omega), pllP2_eq]
  · exact congrArg Int.ofNat (toNat_ofInt_of_fits (v := pllP3 c) rfl hc)

/-- From the fields of an accepted request come back its operands, the division by 128 exact (R89). -/
theorem recoverPll_fields {a b c : Nat} {F : PllFields} (hb : b < c) (h1 : (F.p1.toNat : Int) = pllP1 a b c)
    (h2 : (F.p2.toNat : Int) = pllP2 b c) (h3 : (F.p3.toNat : Int) = pllP3 c) : recoverPll F = (a, b, c) := by
  have hf := pllF_lt hb
  have e3 : F.p3.toNat = c := by unfold pllP3 at h3; omega
  have ef : (F.p1.toNat + 512) % 128 = pllF b c := by unfold pllP1 at h1; omega
  have e2 : F.p2.toNat + c * pllF b c = 128 * b := by
    unfold pllP2 at h2
    push_cast [← Nat.cast_inj (R := Int)]
    linarith
  have ea : (F.p1.toNat + 512) / 128 = a := by unfold pllP1 at h1; omega
  simp only [recoverPll, e3, ef, e2, ea, Nat.mul_div_cancel_left b (show 0 < 128 by decide)]

end Sys2Proof.Machine
end

