-- ==== Sys2Proof/Laws/Memory.lean ====
section
/-! SUPPORT. The device's registers: a read after a write, the canonical form, and what a burst does to every register. -/

namespace Sys2Proof.Machine

theorem Memory.read_write_same (m : Memory) (a v : Byte) : (m.write a v).read a = some v := by
  induction m with
  | nil => simp [Memory.write, Memory.read]
  | cons p m ih =>
    obtain ⟨k, u⟩ := p
    simp only [Memory.write]
    split
    · simp [Memory.read]
    · split
      · simp [Memory.read, *]
      · rename_i h; simp [Memory.read, Ne.symm h, ih]

theorem Memory.read_write_other (m : Memory) {a a' : Byte} (v : Byte) (h : a' ≠ a) :
    (m.write a v).read a' = m.read a' := by
  have hn : a.toNat ≠ a'.toNat := fun e => h (BitVec.eq_of_toNat_eq e.symm)
  induction m with
  | nil => simp [Memory.write, Memory.read, hn]
  | cons p m ih =>
    obtain ⟨k, u⟩ := p
    simp only [Memory.write]
    split
    · simp [Memory.read, hn]
    · split
      · rename_i hk; subst hk; simp [Memory.read, hn]
      · simp [Memory.read, ih]

/-- The keys after a write are the old ones and the one written. -/
theorem Memory.mem_write {m : Memory} {a v : Byte} {q : Host.Cell} (h : q ∈ m.write a v) : q.1 = a.toNat ∨ ∃ u, (q.1, u) ∈ m := by
  induction m with
  | nil => simp [Memory.write] at h; simp [h]
  | cons p m ih =>
    obtain ⟨k, u⟩ := p
    simp only [Memory.write] at h
    split at h
    · rcases List.mem_cons.1 h with rfl | h
      · exact .inl rfl
      · exact .inr ⟨q.2, h⟩
    · split at h
      · rename_i hk
        rcases List.mem_cons.1 h with rfl | h
        · exact .inl hk.symm
        · exact .inr ⟨q.2, List.mem_cons_of_mem _ h⟩
      · rcases List.mem_cons.1 h with rfl | h
        · exact .inr ⟨u, List.mem_cons_self⟩
        · rcases ih h with h | ⟨w, h⟩
          · exact .inl h
          · exact .inr ⟨w, List.mem_cons_of_mem _ h⟩

theorem Memory.wf_cons {p : Host.Cell} {m : Memory} :
    Memory.wf (p :: m) = true ↔ (∀ q ∈ m, p.1 < q.1) ∧ p.1 < 256 ∧ Memory.wf m = true := by
  simp only [Memory.wf, List.pairwise_cons, List.all_cons, Bool.and_eq_true, decide_eq_true_eq]
  tauto

/-- Every write keeps the canonical form. -/
theorem Memory.write_wf {m : Memory} (h : m.wf = true) (a v : Byte) : (m.write a v).wf = true := by
  have ha := a.isLt
  induction m with
  | nil => simp [Memory.write, Memory.wf, ha]
  | cons p m ih =>
    obtain ⟨k, u⟩ := p
    obtain ⟨h1, h2, h3⟩ := Memory.wf_cons.1 h
    simp only [Memory.write]
    split
    · rename_i hlt
      refine Memory.wf_cons.2 ⟨fun q hq => ?_, ha, h⟩
      rcases List.mem_cons.1 hq with rfl | hq
      · exact hlt
      · exact Nat.lt_trans hlt (h1 q hq)
    · split
      · exact Memory.wf_cons.2 ⟨h1, h2, h3⟩
      · refine Memory.wf_cons.2 ⟨fun q hq => ?_, h2, ih h3⟩
        rcases Memory.mem_write hq with e | ⟨w, hw⟩
        · simp only [e]; omega
        · exact (h1 (q.1, w) hw :)

theorem writeLane_wf {t : Target} {b : Block} {r : BusReport} {m : Memory} (h : m.wf = true) (k : Fin 8) :
    (writeLane t b r m k).wf = true := by
  unfold writeLane
  split
  · exact Memory.write_wf h _ _
  · exact h

theorem busWrite_wf {m : Memory} (h : m.wf = true) (w : Byte × Byte) (r : BusReport) : (busWrite w r m).wf = true := by
  unfold busWrite
  split
  · exact Memory.write_wf h _ _
  · exact h

/-- A burst keeps the canonical form, whatever the transport reports. -/
theorem burstWrite_wf {m : Memory} (h : m.wf = true) (t : Target) (b : Block) (r : BusReport) :
    (burstWrite t b r m).wf = true := by
  simp only [burstWrite, laneOrder, List.foldl]
  iterate 8 apply writeLane_wf
  exact h

/-- Two lanes of two blocks land in one register only if they are the same lane of the same block (R41, R42). -/
theorem blockRegister_inj {t t' : Target} {k k' : Fin 8} (h : blockRegister t k = blockRegister t' k') : t = t' ∧ k = k' := by
  revert h
  rcases t with (_ | _) | p <;> rcases t' with (_ | _) | p' <;> revert k k' <;> (try revert p) <;> (try revert p') <;> decide

theorem writeLane_read_same (t : Target) (b : Block) (r : BusReport) (m : Memory) (k : Fin 8) :
    (writeLane t b r m k).read (blockRegister t k) =
      if r.lands k then some (b.lane k) else m.read (blockRegister t k) := by
  unfold writeLane
  split
  · exact Memory.read_write_same _ _ _
  · rfl

theorem writeLane_read_other (t : Target) (b : Block) (r : BusReport) (m : Memory) (k : Fin 8) {a : Byte}
    (h : a ≠ blockRegister t k) : (writeLane t b r m k).read a = m.read a := by
  unfold writeLane
  split
  · exact Memory.read_write_other _ _ h
  · rfl

/-- After a burst, lane k's register holds the lane where the write landed and its old value where it did not (R44, R48). -/
theorem burstWrite_read_lane (t : Target) (b : Block) (r : BusReport) (m : Memory) (k : Fin 8) :
    (burstWrite t b r m).read (blockRegister t k) =
      if r.lands k then some (b.lane k) else m.read (blockRegister t k) := by
  have ne : ∀ k', k ≠ k' → blockRegister t k ≠ blockRegister t k' := fun k' h e => h (blockRegister_inj e).2
  simp only [burstWrite, laneOrder, List.foldl]
  fin_cases k <;>
  · simp only [Fin.reduceFinMk, Fin.zero_eta, Fin.isValue] at ne ⊢
    repeat (first | rw [writeLane_read_same] | rw [writeLane_read_other _ _ _ _ _ (ne _ (by decide))])

/-- A burst leaves every register outside its target's block alone (R44, R46). -/
theorem burstWrite_read_other (t : Target) (b : Block) (r : BusReport) (m : Memory) {a : Byte}
    (h : ∀ k, a ≠ blockRegister t k) : (burstWrite t b r m).read a = m.read a := by
  simp only [burstWrite, laneOrder, List.foldl]
  repeat rw [writeLane_read_other _ _ _ _ _ (h _)]

theorem busWrite_read_same (w : Byte × Byte) (r : BusReport) (m : Memory) :
    (busWrite w r m).read w.1 = if r.lands 0 then some w.2 else m.read w.1 := by
  unfold busWrite
  split
  · exact Memory.read_write_same _ _ _
  · rfl

theorem busWrite_read_other (w : Byte × Byte) (r : BusReport) (m : Memory) {a : Byte} (h : a ≠ w.1) :
    (busWrite w r m).read a = m.read a := by
  unfold busWrite
  split
  · exact Memory.read_write_other _ _ h
  · rfl

/-- No two outputs share a bit of register 3 (R50). -/
theorem disableBit_injective : Function.Injective Config.disableBit :=
  Config.register3Bits.injective.comp (Fin.castLE_injective _)

/-- What stands at lane k of the settings in a block: the register of lane k (R44). -/
theorem blockSettings_lane (t : Target) (m : Memory) (k : Fin 8) :
    (blockSettings t m)[k.val]? = some (m.read (blockRegister t k)) := by
  fin_cases k <;> rfl

/-- The settings in a block are its eight registers' contents and nothing else. -/
theorem blockSettings_congr {t : Target} {m m' : Memory}
    (h : ∀ k, m.read (blockRegister t k) = m'.read (blockRegister t k)) : blockSettings t m = blockSettings t m' := by
  simp only [blockSettings, h]

/-- A write of the reset-control register leaves the settings in every block as they are (R41). -/
theorem blockSettings_resetControl (t : Target) (m : Memory) (v : Byte) :
    blockSettings t (m.write resetControl v) = blockSettings t m := by
  refine blockSettings_congr fun k => Memory.read_write_other m v ?_
  rcases t with (_ | _) | p <;> revert k <;> (try revert p) <;> decide

/-- What a PLL's start can be after a write: the settings in its block, if the write reached register 177 with its bit,
and what it was otherwise (R50, R146). -/
theorem startAfter_cases (s : State) (w : Byte × Byte) (r : BusReport) (p : Pll) :
    (r.lands 0 = true ∧ w.1 = resetControl ∧ w.2 &&& resetBit p ≠ 0 ∧
      s.startAfter w r p = some (blockSettings (.pll p) s.device)) ∨
    (¬ (r.lands 0 = true ∧ w.1 = resetControl ∧ w.2 &&& resetBit p ≠ 0) ∧ s.startAfter w r p = s.start p) := by
  unfold State.startAfter pulsesReset
  split
  · rename_i h
    simp only [Bool.and_eq_true, decide_eq_true_eq] at h
    exact .inl ⟨h.1, h.2.1, h.2.2, rfl⟩
  · rename_i h
    simp only [Bool.and_eq_true, decide_eq_true_eq] at h
    exact .inr ⟨h, rfl⟩

end Sys2Proof.Machine
end

