-- ==== Sys2Proof/Laws/State.lean ====
section
/-! SUPPORT. One lemma per field per update of the state: what the update makes of the field. -/

namespace Sys2Proof.Machine

variable (s : State)

@[simp] theorem State.setRequest_params (w : Request) : (s.setRequest w).params = s.params := rfl
@[simp] theorem State.setRequest_op (w : Request) : (s.setRequest w).op = w.op := rfl
@[simp] theorem State.setRequest_x (w : Request) : (s.setRequest w).x = w.x := rfl
@[simp] theorem State.setRequest_y (w : Request) : (s.setRequest w).y = w.y := rfl
@[simp] theorem State.setRequest_z (w : Request) : (s.setRequest w).z = w.z := rfl
@[simp] theorem State.setRequest_rst (w : Request) : (s.setRequest w).rst = s.rst := rfl
@[simp] theorem State.setRequest_req (w : Request) : (s.setRequest w).req = s.req := rfl
@[simp] theorem State.setRequest_rsp (w : Request) : (s.setRequest w).rsp = s.rsp := rfl
@[simp] theorem State.setRequest_out (w : Request) : (s.setRequest w).out = s.out := rfl
@[simp] theorem State.setRequest_inFlight (w : Request) : (s.setRequest w).inFlight = s.inFlight := rfl
@[simp] theorem State.setRequest_consumer (w : Request) : (s.setRequest w).consumer = s.consumer := rfl
@[simp] theorem State.setRequest_program (w : Request) : (s.setRequest w).program = s.program := rfl
@[simp] theorem State.setRequest_transport (w : Request) : (s.setRequest w).transport = s.transport := rfl
@[simp] theorem State.setRequest_reports (w : Request) : (s.setRequest w).reports = s.reports := rfl
@[simp] theorem State.setRequest_device (w : Request) : (s.setRequest w).device = s.device := rfl
@[simp] theorem State.setRequest_startA (w : Request) : (s.setRequest w).startA = s.startA := rfl
@[simp] theorem State.setRequest_startB (w : Request) : (s.setRequest w).startB = s.startB := rfl
@[simp] theorem State.setRequest_start (w : Request) (q : Pll) : (s.setRequest w).start q = s.start q := by cases q <;> rfl

@[simp] theorem State.setReq_params (b : Bool) : (s.setReq b).params = s.params := rfl
@[simp] theorem State.setReq_op (b : Bool) : (s.setReq b).op = s.op := rfl
@[simp] theorem State.setReq_x (b : Bool) : (s.setReq b).x = s.x := rfl
@[simp] theorem State.setReq_y (b : Bool) : (s.setReq b).y = s.y := rfl
@[simp] theorem State.setReq_z (b : Bool) : (s.setReq b).z = s.z := rfl
@[simp] theorem State.setReq_rst (b : Bool) : (s.setReq b).rst = s.rst := rfl
@[simp] theorem State.setReq_req (b : Bool) : (s.setReq b).req = b := rfl
@[simp] theorem State.setReq_rsp (b : Bool) : (s.setReq b).rsp = s.rsp := rfl
@[simp] theorem State.setReq_out (b : Bool) : (s.setReq b).out = s.out := rfl
@[simp] theorem State.setReq_inFlight (b : Bool) : (s.setReq b).inFlight = s.inFlight := rfl
@[simp] theorem State.setReq_consumer (b : Bool) : (s.setReq b).consumer = s.consumer := rfl
@[simp] theorem State.setReq_program (b : Bool) : (s.setReq b).program = s.program := rfl
@[simp] theorem State.setReq_transport (b : Bool) : (s.setReq b).transport = s.transport := rfl
@[simp] theorem State.setReq_reports (b : Bool) : (s.setReq b).reports = s.reports := rfl
@[simp] theorem State.setReq_device (b : Bool) : (s.setReq b).device = s.device := rfl
@[simp] theorem State.setReq_startA (b : Bool) : (s.setReq b).startA = s.startA := rfl
@[simp] theorem State.setReq_startB (b : Bool) : (s.setReq b).startB = s.startB := rfl
@[simp] theorem State.setReq_start (b : Bool) (q : Pll) : (s.setReq b).start q = s.start q := by cases q <;> rfl

@[simp] theorem State.setOut_params (o : Output) : (s.setOut o).params = s.params := rfl
@[simp] theorem State.setOut_op (o : Output) : (s.setOut o).op = s.op := rfl
@[simp] theorem State.setOut_x (o : Output) : (s.setOut o).x = s.x := rfl
@[simp] theorem State.setOut_y (o : Output) : (s.setOut o).y = s.y := rfl
@[simp] theorem State.setOut_z (o : Output) : (s.setOut o).z = s.z := rfl
@[simp] theorem State.setOut_rst (o : Output) : (s.setOut o).rst = s.rst := rfl
@[simp] theorem State.setOut_req (o : Output) : (s.setOut o).req = s.req := rfl
@[simp] theorem State.setOut_rsp (o : Output) : (s.setOut o).rsp = s.rsp := rfl
@[simp] theorem State.setOut_out (o : Output) : (s.setOut o).out = o := rfl
@[simp] theorem State.setOut_inFlight (o : Output) : (s.setOut o).inFlight = s.inFlight := rfl
@[simp] theorem State.setOut_consumer (o : Output) : (s.setOut o).consumer = s.consumer := rfl
@[simp] theorem State.setOut_program (o : Output) : (s.setOut o).program = s.program := rfl
@[simp] theorem State.setOut_transport (o : Output) : (s.setOut o).transport = s.transport := rfl
@[simp] theorem State.setOut_reports (o : Output) : (s.setOut o).reports = s.reports := rfl
@[simp] theorem State.setOut_device (o : Output) : (s.setOut o).device = s.device := rfl
@[simp] theorem State.setOut_startA (o : Output) : (s.setOut o).startA = s.startA := rfl
@[simp] theorem State.setOut_startB (o : Output) : (s.setOut o).startB = s.startB := rfl
@[simp] theorem State.setOut_start (o : Output) (q : Pll) : (s.setOut o).start q = s.start q := by cases q <;> rfl

@[simp] theorem State.setPipe_params (b : Bool) (fs : List Flight) : (s.setPipe b fs).params = s.params := rfl
@[simp] theorem State.setPipe_op (b : Bool) (fs : List Flight) : (s.setPipe b fs).op = s.op := rfl
@[simp] theorem State.setPipe_x (b : Bool) (fs : List Flight) : (s.setPipe b fs).x = s.x := rfl
@[simp] theorem State.setPipe_y (b : Bool) (fs : List Flight) : (s.setPipe b fs).y = s.y := rfl
@[simp] theorem State.setPipe_z (b : Bool) (fs : List Flight) : (s.setPipe b fs).z = s.z := rfl
@[simp] theorem State.setPipe_rst (b : Bool) (fs : List Flight) : (s.setPipe b fs).rst = s.rst := rfl
@[simp] theorem State.setPipe_req (b : Bool) (fs : List Flight) : (s.setPipe b fs).req = s.req := rfl
@[simp] theorem State.setPipe_rsp (b : Bool) (fs : List Flight) : (s.setPipe b fs).rsp = b := rfl
@[simp] theorem State.setPipe_out (b : Bool) (fs : List Flight) : (s.setPipe b fs).out = s.out := rfl
@[simp] theorem State.setPipe_inFlight (b : Bool) (fs : List Flight) : (s.setPipe b fs).inFlight = fs := rfl
@[simp] theorem State.setPipe_consumer (b : Bool) (fs : List Flight) : (s.setPipe b fs).consumer = s.consumer := rfl
@[simp] theorem State.setPipe_program (b : Bool) (fs : List Flight) : (s.setPipe b fs).program = s.program := rfl
@[simp] theorem State.setPipe_transport (b : Bool) (fs : List Flight) : (s.setPipe b fs).transport = s.transport := rfl
@[simp] theorem State.setPipe_reports (b : Bool) (fs : List Flight) : (s.setPipe b fs).reports = s.reports := rfl
@[simp] theorem State.setPipe_device (b : Bool) (fs : List Flight) : (s.setPipe b fs).device = s.device := rfl
@[simp] theorem State.setPipe_startA (b : Bool) (fs : List Flight) : (s.setPipe b fs).startA = s.startA := rfl
@[simp] theorem State.setPipe_startB (b : Bool) (fs : List Flight) : (s.setPipe b fs).startB = s.startB := rfl
@[simp] theorem State.setPipe_start (b : Bool) (fs : List Flight) (q : Pll) : (s.setPipe b fs).start q = s.start q := by cases q <;> rfl

@[simp] theorem State.setConsumer_params (c : Consumer) : (s.setConsumer c).params = s.params := rfl
@[simp] theorem State.setConsumer_op (c : Consumer) : (s.setConsumer c).op = s.op := rfl
@[simp] theorem State.setConsumer_x (c : Consumer) : (s.setConsumer c).x = s.x := rfl
@[simp] theorem State.setConsumer_y (c : Consumer) : (s.setConsumer c).y = s.y := rfl
@[simp] theorem State.setConsumer_z (c : Consumer) : (s.setConsumer c).z = s.z := rfl
@[simp] theorem State.setConsumer_rst (c : Consumer) : (s.setConsumer c).rst = s.rst := rfl
@[simp] theorem State.setConsumer_req (c : Consumer) : (s.setConsumer c).req = s.req := rfl
@[simp] theorem State.setConsumer_rsp (c : Consumer) : (s.setConsumer c).rsp = s.rsp := rfl
@[simp] theorem State.setConsumer_out (c : Consumer) : (s.setConsumer c).out = s.out := rfl
@[simp] theorem State.setConsumer_inFlight (c : Consumer) : (s.setConsumer c).inFlight = s.inFlight := rfl
@[simp] theorem State.setConsumer_consumer (c : Consumer) : (s.setConsumer c).consumer = c := rfl
@[simp] theorem State.setConsumer_program (c : Consumer) : (s.setConsumer c).program = s.program := rfl
@[simp] theorem State.setConsumer_transport (c : Consumer) : (s.setConsumer c).transport = s.transport := rfl
@[simp] theorem State.setConsumer_reports (c : Consumer) : (s.setConsumer c).reports = s.reports := rfl
@[simp] theorem State.setConsumer_device (c : Consumer) : (s.setConsumer c).device = s.device := rfl
@[simp] theorem State.setConsumer_startA (c : Consumer) : (s.setConsumer c).startA = s.startA := rfl
@[simp] theorem State.setConsumer_startB (c : Consumer) : (s.setConsumer c).startB = s.startB := rfl
@[simp] theorem State.setConsumer_start (c : Consumer) (q : Pll) : (s.setConsumer c).start q = s.start q := by cases q <;> rfl

@[simp] theorem State.setProgram_params (p : List Call) : (s.setProgram p).params = s.params := rfl
@[simp] theorem State.setProgram_op (p : List Call) : (s.setProgram p).op = s.op := rfl
@[simp] theorem State.setProgram_x (p : List Call) : (s.setProgram p).x = s.x := rfl
@[simp] theorem State.setProgram_y (p : List Call) : (s.setProgram p).y = s.y := rfl
@[simp] theorem State.setProgram_z (p : List Call) : (s.setProgram p).z = s.z := rfl
@[simp] theorem State.setProgram_rst (p : List Call) : (s.setProgram p).rst = s.rst := rfl
@[simp] theorem State.setProgram_req (p : List Call) : (s.setProgram p).req = s.req := rfl
@[simp] theorem State.setProgram_rsp (p : List Call) : (s.setProgram p).rsp = s.rsp := rfl
@[simp] theorem State.setProgram_out (p : List Call) : (s.setProgram p).out = s.out := rfl
@[simp] theorem State.setProgram_inFlight (p : List Call) : (s.setProgram p).inFlight = s.inFlight := rfl
@[simp] theorem State.setProgram_consumer (p : List Call) : (s.setProgram p).consumer = s.consumer := rfl
@[simp] theorem State.setProgram_program (p : List Call) : (s.setProgram p).program = p := rfl
@[simp] theorem State.setProgram_transport (p : List Call) : (s.setProgram p).transport = s.transport := rfl
@[simp] theorem State.setProgram_reports (p : List Call) : (s.setProgram p).reports = s.reports := rfl
@[simp] theorem State.setProgram_device (p : List Call) : (s.setProgram p).device = s.device := rfl
@[simp] theorem State.setProgram_startA (p : List Call) : (s.setProgram p).startA = s.startA := rfl
@[simp] theorem State.setProgram_startB (p : List Call) : (s.setProgram p).startB = s.startB := rfl
@[simp] theorem State.setProgram_start (p : List Call) (q : Pll) : (s.setProgram p).start q = s.start q := by cases q <;> rfl

@[simp] theorem State.setTransport_params (l : List BusReport) : (s.setTransport l).params = s.params := rfl
@[simp] theorem State.setTransport_op (l : List BusReport) : (s.setTransport l).op = s.op := rfl
@[simp] theorem State.setTransport_x (l : List BusReport) : (s.setTransport l).x = s.x := rfl
@[simp] theorem State.setTransport_y (l : List BusReport) : (s.setTransport l).y = s.y := rfl
@[simp] theorem State.setTransport_z (l : List BusReport) : (s.setTransport l).z = s.z := rfl
@[simp] theorem State.setTransport_rst (l : List BusReport) : (s.setTransport l).rst = s.rst := rfl
@[simp] theorem State.setTransport_req (l : List BusReport) : (s.setTransport l).req = s.req := rfl
@[simp] theorem State.setTransport_rsp (l : List BusReport) : (s.setTransport l).rsp = s.rsp := rfl
@[simp] theorem State.setTransport_out (l : List BusReport) : (s.setTransport l).out = s.out := rfl
@[simp] theorem State.setTransport_inFlight (l : List BusReport) : (s.setTransport l).inFlight = s.inFlight := rfl
@[simp] theorem State.setTransport_consumer (l : List BusReport) : (s.setTransport l).consumer = s.consumer := rfl
@[simp] theorem State.setTransport_program (l : List BusReport) : (s.setTransport l).program = s.program := rfl
@[simp] theorem State.setTransport_transport (l : List BusReport) : (s.setTransport l).transport = l := rfl
@[simp] theorem State.setTransport_reports (l : List BusReport) : (s.setTransport l).reports = s.reports := rfl
@[simp] theorem State.setTransport_device (l : List BusReport) : (s.setTransport l).device = s.device := rfl
@[simp] theorem State.setTransport_startA (l : List BusReport) : (s.setTransport l).startA = s.startA := rfl
@[simp] theorem State.setTransport_startB (l : List BusReport) : (s.setTransport l).startB = s.startB := rfl
@[simp] theorem State.setTransport_start (l : List BusReport) (q : Pll) : (s.setTransport l).start q = s.start q := by cases q <;> rfl

@[simp] theorem State.setDevice_params (m : Memory) : (s.setDevice m).params = s.params := rfl
@[simp] theorem State.setDevice_op (m : Memory) : (s.setDevice m).op = s.op := rfl
@[simp] theorem State.setDevice_x (m : Memory) : (s.setDevice m).x = s.x := rfl
@[simp] theorem State.setDevice_y (m : Memory) : (s.setDevice m).y = s.y := rfl
@[simp] theorem State.setDevice_z (m : Memory) : (s.setDevice m).z = s.z := rfl
@[simp] theorem State.setDevice_rst (m : Memory) : (s.setDevice m).rst = s.rst := rfl
@[simp] theorem State.setDevice_req (m : Memory) : (s.setDevice m).req = s.req := rfl
@[simp] theorem State.setDevice_rsp (m : Memory) : (s.setDevice m).rsp = s.rsp := rfl
@[simp] theorem State.setDevice_out (m : Memory) : (s.setDevice m).out = s.out := rfl
@[simp] theorem State.setDevice_inFlight (m : Memory) : (s.setDevice m).inFlight = s.inFlight := rfl
@[simp] theorem State.setDevice_consumer (m : Memory) : (s.setDevice m).consumer = s.consumer := rfl
@[simp] theorem State.setDevice_program (m : Memory) : (s.setDevice m).program = s.program := rfl
@[simp] theorem State.setDevice_transport (m : Memory) : (s.setDevice m).transport = s.transport := rfl
@[simp] theorem State.setDevice_reports (m : Memory) : (s.setDevice m).reports = s.reports := rfl
@[simp] theorem State.setDevice_device (m : Memory) : (s.setDevice m).device = m := rfl
@[simp] theorem State.setDevice_startA (m : Memory) : (s.setDevice m).startA = s.startA := rfl
@[simp] theorem State.setDevice_startB (m : Memory) : (s.setDevice m).startB = s.startB := rfl
@[simp] theorem State.setDevice_start (m : Memory) (q : Pll) : (s.setDevice m).start q = s.start q := by cases q <;> rfl

@[simp] theorem State.setStarts_params (a b : Option Settings) : (s.setStarts a b).params = s.params := rfl
@[simp] theorem State.setStarts_op (a b : Option Settings) : (s.setStarts a b).op = s.op := rfl
@[simp] theorem State.setStarts_x (a b : Option Settings) : (s.setStarts a b).x = s.x := rfl
@[simp] theorem State.setStarts_y (a b : Option Settings) : (s.setStarts a b).y = s.y := rfl
@[simp] theorem State.setStarts_z (a b : Option Settings) : (s.setStarts a b).z = s.z := rfl
@[simp] theorem State.setStarts_rst (a b : Option Settings) : (s.setStarts a b).rst = s.rst := rfl
@[simp] theorem State.setStarts_req (a b : Option Settings) : (s.setStarts a b).req = s.req := rfl
@[simp] theorem State.setStarts_rsp (a b : Option Settings) : (s.setStarts a b).rsp = s.rsp := rfl
@[simp] theorem State.setStarts_out (a b : Option Settings) : (s.setStarts a b).out = s.out := rfl
@[simp] theorem State.setStarts_inFlight (a b : Option Settings) : (s.setStarts a b).inFlight = s.inFlight := rfl
@[simp] theorem State.setStarts_consumer (a b : Option Settings) : (s.setStarts a b).consumer = s.consumer := rfl
@[simp] theorem State.setStarts_program (a b : Option Settings) : (s.setStarts a b).program = s.program := rfl
@[simp] theorem State.setStarts_transport (a b : Option Settings) : (s.setStarts a b).transport = s.transport := rfl
@[simp] theorem State.setStarts_reports (a b : Option Settings) : (s.setStarts a b).reports = s.reports := rfl
@[simp] theorem State.setStarts_device (a b : Option Settings) : (s.setStarts a b).device = s.device := rfl
@[simp] theorem State.setStarts_startA (a b : Option Settings) : (s.setStarts a b).startA = a := rfl
@[simp] theorem State.setStarts_startB (a b : Option Settings) : (s.setStarts a b).startB = b := rfl
@[simp] theorem State.setStarts_start (a b : Option Settings) (q : Pll) :
    (s.setStarts a b).start q = match q with | .a => a | .b => b := by cases q <;> rfl

@[simp] theorem State.applyWrite_params (w : Byte × Byte) (r : BusReport) : (s.applyWrite w r).params = s.params := rfl
@[simp] theorem State.applyWrite_op (w : Byte × Byte) (r : BusReport) : (s.applyWrite w r).op = s.op := rfl
@[simp] theorem State.applyWrite_x (w : Byte × Byte) (r : BusReport) : (s.applyWrite w r).x = s.x := rfl
@[simp] theorem State.applyWrite_y (w : Byte × Byte) (r : BusReport) : (s.applyWrite w r).y = s.y := rfl
@[simp] theorem State.applyWrite_z (w : Byte × Byte) (r : BusReport) : (s.applyWrite w r).z = s.z := rfl
@[simp] theorem State.applyWrite_rst (w : Byte × Byte) (r : BusReport) : (s.applyWrite w r).rst = s.rst := rfl
@[simp] theorem State.applyWrite_req (w : Byte × Byte) (r : BusReport) : (s.applyWrite w r).req = s.req := rfl
@[simp] theorem State.applyWrite_rsp (w : Byte × Byte) (r : BusReport) : (s.applyWrite w r).rsp = s.rsp := rfl
@[simp] theorem State.applyWrite_out (w : Byte × Byte) (r : BusReport) : (s.applyWrite w r).out = s.out := rfl
@[simp] theorem State.applyWrite_inFlight (w : Byte × Byte) (r : BusReport) : (s.applyWrite w r).inFlight = s.inFlight := rfl
@[simp] theorem State.applyWrite_consumer (w : Byte × Byte) (r : BusReport) : (s.applyWrite w r).consumer = s.consumer := rfl
@[simp] theorem State.applyWrite_program (w : Byte × Byte) (r : BusReport) : (s.applyWrite w r).program = s.program := rfl
@[simp] theorem State.applyWrite_transport (w : Byte × Byte) (r : BusReport) : (s.applyWrite w r).transport = s.transport := rfl
@[simp] theorem State.applyWrite_reports (w : Byte × Byte) (r : BusReport) : (s.applyWrite w r).reports = s.reports := rfl
@[simp] theorem State.applyWrite_device (w : Byte × Byte) (r : BusReport) : (s.applyWrite w r).device = busWrite w r s.device := rfl
@[simp] theorem State.applyWrite_start (w : Byte × Byte) (r : BusReport) (q : Pll) :
    (s.applyWrite w r).start q = s.startAfter w r q := by cases q <;> rfl

@[simp] theorem State.finish_params (r : CallReport) : (s.finish r).params = s.params := rfl
@[simp] theorem State.finish_op (r : CallReport) : (s.finish r).op = s.op := rfl
@[simp] theorem State.finish_x (r : CallReport) : (s.finish r).x = s.x := rfl
@[simp] theorem State.finish_y (r : CallReport) : (s.finish r).y = s.y := rfl
@[simp] theorem State.finish_z (r : CallReport) : (s.finish r).z = s.z := rfl
@[simp] theorem State.finish_rst (r : CallReport) : (s.finish r).rst = s.rst := rfl
@[simp] theorem State.finish_req (r : CallReport) : (s.finish r).req = s.req := rfl
@[simp] theorem State.finish_rsp (r : CallReport) : (s.finish r).rsp = s.rsp := rfl
@[simp] theorem State.finish_out (r : CallReport) : (s.finish r).out = s.out := rfl
@[simp] theorem State.finish_inFlight (r : CallReport) : (s.finish r).inFlight = s.inFlight := rfl
@[simp] theorem State.finish_consumer (r : CallReport) : (s.finish r).consumer = .ready := rfl
@[simp] theorem State.finish_program (r : CallReport) : (s.finish r).program = s.program := rfl
@[simp] theorem State.finish_transport (r : CallReport) : (s.finish r).transport = s.transport := rfl
@[simp] theorem State.finish_reports (r : CallReport) : (s.finish r).reports = s.reports ++ [r] := rfl
@[simp] theorem State.finish_device (r : CallReport) : (s.finish r).device = s.device := rfl
@[simp] theorem State.finish_startA (r : CallReport) : (s.finish r).startA = s.startA := rfl
@[simp] theorem State.finish_startB (r : CallReport) : (s.finish r).startB = s.startB := rfl
@[simp] theorem State.finish_start (r : CallReport) (q : Pll) : (s.finish r).start q = s.start q := by cases q <;> rfl

/-! The request on the ports, and what presenting one leaves. -/

theorem Request.make_fields (w : Request) : Request.make w.op w.x w.y w.z = w := by
  apply BitVec.eq_of_toNat_eq
  simp only [Request.make, Request.op, Request.x, Request.y, Request.z, BitVec.toNat_append, BitVec.extractLsb_toNat]
  have := w.isLt
  simp only [Nat.shiftLeft_eq, Nat.shiftRight_eq_div_pow]
  rw [← Nat.shiftLeft_eq, ← Nat.shiftLeft_eq, ← Nat.shiftLeft_eq, ← Nat.shiftLeft_add_eq_or_of_lt (by omega),
    ← Nat.shiftLeft_add_eq_or_of_lt (by omega), ← Nat.shiftLeft_add_eq_or_of_lt (by omega)]
  simp only [Nat.shiftLeft_eq]
  omega
@[simp] theorem State.setRequest_request (w : Request) : (s.setRequest w).request = w := Request.make_fields w
@[simp] theorem State.setReq_request (b : Bool) : (s.setReq b).request = s.request := rfl
@[simp] theorem State.setOut_request (o : Output) : (s.setOut o).request = s.request := rfl
@[simp] theorem State.setPipe_request (b : Bool) (fs : List Flight) : (s.setPipe b fs).request = s.request := rfl
@[simp] theorem State.setConsumer_request (c : Consumer) : (s.setConsumer c).request = s.request := rfl
@[simp] theorem State.setProgram_request (p : List Call) : (s.setProgram p).request = s.request := rfl
@[simp] theorem State.setTransport_request (l : List BusReport) : (s.setTransport l).request = s.request := rfl
@[simp] theorem State.setDevice_request (m : Memory) : (s.setDevice m).request = s.request := rfl
@[simp] theorem State.setStarts_request (a b : Option Settings) : (s.setStarts a b).request = s.request := rfl
@[simp] theorem State.applyWrite_request (w : Byte × Byte) (r : BusReport) : (s.applyWrite w r).request = s.request := rfl
@[simp] theorem State.finish_request (r : CallReport) : (s.finish r).request = s.request := rfl

@[simp] theorem State.present_params (t : Target) (w : Request) : (s.present t w).params = s.params := rfl
@[simp] theorem State.present_op (t : Target) (w : Request) : (s.present t w).op = w.op := rfl
@[simp] theorem State.present_x (t : Target) (w : Request) : (s.present t w).x = w.x := rfl
@[simp] theorem State.present_y (t : Target) (w : Request) : (s.present t w).y = w.y := rfl
@[simp] theorem State.present_z (t : Target) (w : Request) : (s.present t w).z = w.z := rfl
@[simp] theorem State.present_rst (t : Target) (w : Request) : (s.present t w).rst = s.rst := rfl
@[simp] theorem State.present_req (t : Target) (w : Request) : (s.present t w).req = decide (s.params.latency ≠ 0) := rfl
@[simp] theorem State.present_rsp (t : Target) (w : Request) : (s.present t w).rsp = s.rsp := rfl
@[simp] theorem State.present_out (t : Target) (w : Request) : (s.present t w).out = s.out := rfl
@[simp] theorem State.present_inFlight (t : Target) (w : Request) : (s.present t w).inFlight = s.inFlight := rfl
@[simp] theorem State.present_consumer (t : Target) (w : Request) : (s.present t w).consumer = .awaiting t := rfl
@[simp] theorem State.present_program (t : Target) (w : Request) : (s.present t w).program = s.program := rfl
@[simp] theorem State.present_transport (t : Target) (w : Request) : (s.present t w).transport = s.transport := rfl
@[simp] theorem State.present_reports (t : Target) (w : Request) : (s.present t w).reports = s.reports := rfl
@[simp] theorem State.present_device (t : Target) (w : Request) : (s.present t w).device = s.device := rfl
@[simp] theorem State.present_startA (t : Target) (w : Request) : (s.present t w).startA = s.startA := rfl
@[simp] theorem State.present_startB (t : Target) (w : Request) : (s.present t w).startB = s.startB := rfl
@[simp] theorem State.present_start (t : Target) (w : Request) (q : Pll) : (s.present t w).start q = s.start q := by cases q <;> rfl
@[simp] theorem State.present_request (t : Target) (w : Request) : (s.present t w).request = w :=
  Request.make_fields w

end Sys2Proof.Machine
end

