-- ==== Sys2Proof/Laws/Step.lean ====
section
/-! SUPPORT. What the operations and the turns can do, each said once: the operation on the block, one cycle of CLK, the
block's turn, the consumer's taking of a response, and the consumer's accesses over the transport. -/

namespace Sys2Proof.Machine

variable (s : State)

/-- Every operation ends in its one result, driven on the outputs, and changes nothing else (R120, R25). -/
theorem exec_eq (i : Instr) : exec i s = .next (s.setOut (.result (resultOf s.params.rPolicy i))) := by
  cases i <;> rfl

/-- RST (R141). -/
theorem clockEdge_reset (h : s.rst = true) : clockEdge s = .next ((s.setPipe false []).setOut .noValue) := by
  unfold clockEdge
  rw [if_pos h]

/-- A cycle that ends with nothing in the pipeline: RSP is 0 and the outputs stay. -/
theorem clockEdge_empty (h : s.rst = false) (ha : s.advance = []) : clockEdge s = .next (s.setPipe false []) := by
  unfold clockEdge
  rw [if_neg (by simp [h]), ha]

/-- A cycle whose oldest request is not due: RSP is 0 and the outputs stay (R141). -/
theorem clockEdge_wait (h : s.rst = false) {f : Flight} {fs : List Flight} (ha : s.advance = f :: fs) (hl : f.left ≠ 0) :
    clockEdge s = .next (s.setPipe false (f :: fs)) := by
  unfold clockEdge
  rw [if_neg (by simp [h]), ha]
  simp only [if_neg hl]

/-- A cycle whose oldest request is due and was held: RSP, and the function of that request (R141, R32). -/
theorem clockEdge_due (h : s.rst = false) {f : Flight} {fs : List Flight} (ha : s.advance = f :: fs) (hl : f.left = 0)
    (hh : f.held = true) :
    clockEdge s = .next ((s.setPipe true fs).setOut (.result (resultOf s.params.rPolicy (decode f.request)))) := by
  unfold clockEdge
  rw [if_neg (by simp [h]), ha]
  simp only [if_pos hl, respond, if_pos hh, exec_eq]
  rfl

/-- A cycle whose oldest request is due and was not held: RSP, and no value (R144). -/
theorem clockEdge_moved (h : s.rst = false) {f : Flight} {fs : List Flight} (ha : s.advance = f :: fs) (hl : f.left = 0)
    (hh : f.held = false) : clockEdge s = .next ((s.setPipe true fs).setOut .noValue) := by
  unfold clockEdge
  rw [if_neg (by simp [h]), ha]
  simp only [if_pos hl, respond, hh]
  rfl

/-- With `LATENCY` 0 the block's turn evaluates the request on the ports (R140, R148). -/
theorem blockStep_zero (h : s.params.latency = 0) : blockStep s = exec (decode s.request) s := by
  unfold blockStep
  rw [if_pos h]

/-- With `LATENCY` > 0 the block's turn is one cycle of CLK (R141). -/
theorem blockStep_pos (h : s.params.latency ≠ 0) : blockStep s = clockEdge s := by
  unfold blockStep
  rw [if_neg h]

/-- One cycle of CLK changes RSP, the pipeline and the outputs, and nothing else. -/
theorem clockEdge_form : ∃ b fs o, clockEdge s = .next ((s.setPipe b fs).setOut o) := by
  by_cases h : s.rst = true
  · exact ⟨_, _, _, clockEdge_reset s h⟩
  rw [Bool.not_eq_true] at h
  rcases ha : s.advance with _ | ⟨f, fs⟩
  · exact ⟨false, [], s.out, clockEdge_empty s h ha⟩
  by_cases hl : f.left = 0
  · by_cases hh : f.held = true
    · exact ⟨_, _, _, clockEdge_due s h ha hl hh⟩
    · exact ⟨_, _, _, clockEdge_moved s h ha hl (by simpa using hh)⟩
  · exact ⟨false, f :: fs, s.out, clockEdge_wait s h ha hl⟩

/-- The block's turn always goes on, and changes RSP, the pipeline and the outputs, and nothing else. -/
theorem blockStep_form : ∃ b fs o, blockStep s = .next ((s.setPipe b fs).setOut o) := by
  by_cases h : s.params.latency = 0
  · exact ⟨s.rsp, s.inFlight, _, by rw [blockStep_zero s h, exec_eq]; rfl⟩
  · rw [blockStep_pos s h]
    exact clockEdge_form s

/-- If taking a response goes on, the consumer had none to take, or took `Ok` for its burst, or `Err` and stopped its
program with the code (R68, R127). -/
theorem takeResponse_cases {t : State} (h : takeResponse s = .next t) :
    t = s ∨
    (∃ g b, s.consumer = .awaiting g ∧ s.responded = true ∧ s.out = .result (.ok b) ∧ t = s.setConsumer (.bursting g)) ∨
    (∃ g e, s.consumer = .awaiting g ∧ s.responded = true ∧ s.out = .result (.err e) ∧
      t = (s.setProgram []).finish (.rangeError e)) := by
  unfold takeResponse at h
  split at h
  · rename_i g hg
    split at h
    · rename_i hr
      cases ho : s.out with
      | noValue => simp only [ho, Output.read] at h; cases h
      | result r =>
        cases r with
        | ok b =>
          simp only [ho, Output.read] at h
          cases h
          exact .inr (.inl ⟨g, b, hg, hr, rfl, rfl⟩)
        | err e =>
          simp only [ho, Output.read] at h
          cases h
          exact .inr (.inr ⟨g, e, hg, hr, rfl, rfl⟩)
    · cases h; exact .inl rfl
  · cases h; exact .inl rfl

/-- If a turn of the block for the consumer goes on, it is a turn of the block, and then a taking of the response. -/
theorem serve_cases {t : State} (h : serve s = .next t) :
    ∃ b fs o, blockStep s = .next ((s.setPipe b fs).setOut o) ∧
      takeResponse (((s.setPipe b fs).setOut o).setReq false) = .next t := by
  obtain ⟨b, fs, o, hb⟩ := blockStep_form s
  refine ⟨b, fs, o, hb, ?_⟩
  unfold serve at h
  rw [hb] at h
  exact h

/-- If a burst goes on, the transport has not reported yet, or it reported and the lanes that landed are written
(R44, R48). -/
theorem burstStep_cases {g : Target} {t : State} (h : burstStep g s = .next t) :
    s.op = targetOp g ∧ ∃ b, s.out = .result (.ok b) ∧
      ((s.transport = [] ∧ t = s) ∨
       ∃ r rs, s.transport = r :: rs ∧
        t = ((s.setDevice (burstWrite g b r s.device)).setTransport rs).finish r.callReport) := by
  unfold burstStep at h
  split at h
  · rename_i hk
    refine ⟨hk, ?_⟩
    unfold State.readBlock at h
    cases ho : s.out with
    | noValue => simp only [ho, Output.read] at h; cases h
    | result r =>
      cases r with
      | err e => simp only [ho, Output.read] at h; cases h
      | ok b =>
        simp only [ho, Output.read] at h
        refine ⟨b, rfl, ?_⟩
        cases ht : s.transport with
        | nil => simp only [ht] at h; cases h; exact .inl ⟨rfl, rfl⟩
        | cons r rs => simp only [ht] at h; cases h; exact .inr ⟨r, rs, rfl, rfl⟩
  · cases h

/-- The read of a read-modify-write always goes on: the transport has not reported, or the write is to follow, or the
read failed and the caller is told. -/
theorem readStep_cases (m : Rmw) :
    (s.transport = [] ∧ readStep m s = .next s) ∨
    (∃ rs, s.transport = .success :: rs ∧ readStep m s =
      .next ((s.setTransport rs).setConsumer (.writing [(m.register, m.apply (s.device.busRead m.register))]))) ∨
    (∃ l rs, s.transport = .failed l :: rs ∧ readStep m s = .next ((s.setTransport rs).finish .transportFailure)) := by
  unfold readStep
  rcases ht : s.transport with _ | ⟨_ | l, rs⟩
  · exact .inl ⟨rfl, rfl⟩
  · exact .inr (.inl ⟨rs, rfl, rfl⟩)
  · exact .inr (.inr ⟨l, rs, rfl, rfl⟩)

/-- A write of the controller always goes on: none is left and the call is done, or the transport has not reported, or
the register is written and the rest follows, or the write failed, which aborts the rest (R143). -/
theorem writeStep_cases (ws : List (Byte × Byte)) :
    (ws = [] ∧ writeStep ws s = .next (s.finish .done)) ∨
    (s.transport = [] ∧ writeStep ws s = .next s) ∨
    (∃ w ws' rs, ws = w :: ws' ∧ s.transport = .success :: rs ∧ writeStep ws s =
      .next (((s.applyWrite w .success).setTransport rs).setConsumer (.writing ws'))) ∨
    (∃ w ws' l rs, ws = w :: ws' ∧ s.transport = .failed l :: rs ∧ writeStep ws s =
      .next (((s.applyWrite w (.failed l)).setTransport rs).finish .transportFailure)) := by
  unfold writeStep
  rcases ws with _ | ⟨w, ws⟩
  · exact .inl ⟨rfl, rfl⟩
  rcases ht : s.transport with _ | ⟨_ | l, rs⟩
  · exact .inr (.inl ⟨rfl, rfl⟩)
  · exact .inr (.inr (.inl ⟨w, ws, rs, rfl, rfl, rfl⟩))
  · exact .inr (.inr (.inr ⟨w, ws, l, rs, rfl, rfl, rfl⟩))

/-- If a call begins and the step goes on, it presented a request and the block had its turn, or it is a controller call
whose accesses are to follow. -/
theorem beginCall_cases {c : Call} {t : State} (h : beginCall c s = .next t) :
    (∃ g w, w.op = targetOp g ∧ serve (s.present g w) = .next t) ∨
    (∃ ws, t = s.setConsumer (.writing ws)) ∨ (∃ m, t = s.setConsumer (.reading m)) := by
  have hop : ∀ (o : BitVec 1) (x y z : Word), (Request.make o x y z).op = o := by
    intro o x y z
    apply BitVec.eq_of_toNat_eq
    have := o.isLt; have := x.isLt; have := y.isLt; have := z.isLt
    simp only [Request.op, Request.make, BitVec.extractLsb_toNat, BitVec.toNat_append]
    rw [← Nat.shiftLeft_add_eq_or_of_lt (by omega), ← Nat.shiftLeft_add_eq_or_of_lt (by omega),
      ← Nat.shiftLeft_add_eq_or_of_lt (by omega)]
    simp only [Nat.shiftLeft_eq, Nat.shiftRight_eq_div_pow]
    omega
  cases c with
  | setupPll p a b c => exact .inl ⟨_, _, hop _ _ _ _, h⟩
  | setupMs p d r => exact .inl ⟨_, _, hop _ _ _ _, h⟩
  | initDevice l => cases h; exact .inr (.inl ⟨_, rfl⟩)
  | resetPll p => cases h; exact .inr (.inl ⟨_, rfl⟩)
  | setupPower p l => cases h; exact .inr (.inr ⟨_, rfl⟩)
  | enableShutDown p d => cases h; exact .inr (.inr ⟨_, rfl⟩)
  | enableOutput p e => cases h; exact .inr (.inr ⟨_, rfl⟩)

/-- What a step is, by whose turn it is. -/
theorem step_eq : step s =
    match s.consumer with
    | .ready => readyStep s
    | .awaiting _ => serve s
    | .bursting t => burstStep t s
    | .reading m => readStep m s
    | .writing ws => writeStep ws s := rfl

end Sys2Proof.Machine
end

