-- ==== Sys2Proof/Tests/Slice0.lean ====
section
/-! SUPPORT. Small checks of the model against spec/95_test_vectors.md, the well-formedness smoke tests, and for every
statement that has hypotheses a witness that meets them. -/

namespace Sys2Proof.Tests

open Sys2Proof Sys2Proof.Machine

/-! ## Well-formedness (R63): one ill-formed term for each check -/

theorem test_wf_pll_top : WellFormed (.encPll 4294967295 4294967295 4294967295) = true := by decide
theorem test_wf_ms_top : WellFormed (.encMs 4294967295 4294967295 4294967295) = true := by decide
theorem test_illformed_pll_a : WellFormed (.encPll 4294967296 0 1) = false := by decide
theorem test_illformed_pll_b : WellFormed (.encPll 4 4294967296 1) = false := by decide
theorem test_illformed_pll_c : WellFormed (.encPll 4 0 4294967296) = false := by decide
theorem test_illformed_ms_divider : WellFormed (.encMs 4294967296 1 0) = false := by decide
theorem test_illformed_ms_r : WellFormed (.encMs 4 4294967296 0) = false := by decide
theorem test_illformed_ms_z : WellFormed (.encMs 4 1 4294967296) = false := by decide

/-! ## Decoding: words written out from R60 to R62, field by field -/

/-- ENC_PLL: OP = 0, X = 24 (bits 95:64), Y = 999999 (63:32), Z = 1000000 (31:0); vector P12. -/
theorem test_decode_pll : decode (0#1 ++ 24#32 ++ 999999#32 ++ 1000000#32) = .encPll 24 999999 1000000 := by decide
/-- ENC_MS: OP = 1, X = 4, Y = 128, Z = 0xDEADBEEF (ignored); vector M3. -/
theorem test_decode_ms : decode (1#1 ++ 4#32 ++ 128#32 ++ 0xDEADBEEF#32) = .encMs 4 128 0xDEADBEEF := by decide
/-- The same two, as the numbers of spec/95_test_vectors.md. -/
theorem test_table_word_pll : decodeTableWord 104 0x0_00000018_000F423F_000F4240 = some (.encPll 24 999999 1000000) := by decide
theorem test_table_word_ms : decodeTableWord 104 0x1_00000004_00000080_DEADBEEF = some (.encMs 4 128 0xDEADBEEF) := by decide
theorem test_not_a_request : decodeBits 0x2_00000000_00000000_00000000 = .error .notARequest := by decide
theorem test_encode_pll : (encode (.encPll 24 999999 1000000)).toNat = 0x0_00000018_000F423F_000F4240 := by decide
theorem test_encode_ms : (encode (.encMs 4 128 0xDEADBEEF)).toNat = 0x1_00000004_00000080_DEADBEEF := by decide

/-! ## One step on a small state (spec/95_test_vectors.md) -/

/-- The property `p` of the next state; false where there is none. -/
def nextIs (o : StepResult) (p : State → Bool) : Bool :=
  match o with
  | .next s => p s
  | _ => false

/-- A machine under FLOOR. -/
def floorState : State := State.powerUp ⟨.floor, 0⟩

/-- P14, every field at or near its top. -/
theorem test_pll_top : nextIs (step (State.reset.withFetchWord 104 0x0_00000803_000FFFFE_000FFFFF))
    (fun s => s.out == .result (.ok ⟨0xFF, 0xFF, 0xF3, 0xFF, 0xFF, 0xFF, 0xFF, 0x7F⟩)) = true := by decide
/-- P24, p1 = -1. -/
theorem test_pll_p1_range : nextIs (step (State.reset.withFetchWord 104 0x0_00000003_0000007F_00000080))
    (fun s => s.out == .result (.err .p1Range)) = true := by decide
/-- M10, the largest p1 and n. -/
theorem test_ms_top : nextIs (step (State.reset.withFetchWord 104 0x1_00000803_00008000_00000000))
    (fun s => s.out == .result (.ok ⟨0x00, 0x01, 0xF3, 0xFF, 0x80, 0x00, 0x00, 0x00⟩)) = true := by decide
/-- M16 under FLOOR: r = 3 gives n = 1. -/
theorem test_ms_floor : nextIs (step (floorState.withFetchWord 104 0x1_00000006_00000003_00000000))
    (fun s => s.out == .result (.ok ⟨0x00, 0x01, 0x10, 0x01, 0x00, 0x00, 0x00, 0x00⟩)) = true := by decide
/-- D5: a block whose two copies of p3[19:16] differ is no PLL block. -/
theorem test_decodePll_rejects : decodePll ⟨0x42, 0x40, 0x00, 0x0A, 0x7F, 0xFF, 0x41, 0xC0⟩ = none := by decide
/-- D8. -/
theorem test_decodeMs : decodeMs ⟨0x00, 0x01, 0xF3, 0xFF, 0x80, 0x00, 0x00, 0x00⟩ = some ⟨262016, 0, 1, 15, 0⟩ := by decide
/-- P12's DOUT. -/
theorem test_dout : Block.dout ⟨0x42, 0x40, 0xF0, 0x0A, 0x7F, 0xFF, 0x41, 0xC0⟩ = 0xC041FF7F0AF04042 := by decide
/-- R67. -/
theorem test_assembler : (Instr.encPll 32 0 1).assembler = "ENC_PLL 32, 0, 1" := by decide

/-! ## Witnesses of the statements' hypotheses -/

/-- R89 on P12's block: DecodePll's fields give a, b and c back. -/
theorem test_recoverPll : (decodePll ⟨0x42, 0x40, 0xF0, 0x0A, 0x7F, 0xFF, 0x41, 0xC0⟩).map recoverPll =
    some (24, 999999, 1000000) := by decide
/-- R50, R146: a write of 0x20 to register 177 starts PLL B from its block, of which register 41 alone is known, and leaves
PLL A's start. -/
theorem test_reset_starts : nextIs (step { State.reset with
      consumer := .writing [(177, 0x20)], transport := [.success], device := [(41, 7)] })
    (fun s => s.startB == some [none, none, none, none, none, none, none, some 7] && s.startA == none) = true := by decide
/-- A machine with `LATENCY` 3. -/
def clocked : State := State.powerUp ⟨.strict, 3⟩
/-- The block of vector P1. -/
def blockP1 : Block := ⟨0x00, 0x01, 0x00, 0x0E, 0x00, 0x00, 0x00, 0x00⟩
/-- A consumer about to burst P1's block to PLL A, with these reports to come. -/
def burstState (l : List BusReport) : State :=
  { State.reset with consumer := .bursting (.pll .a), out := .result (.ok blockP1), transport := l }

/-- One triple for each clause of EncPllResult, at the edges: c = 0; c = 2^20; b = c; p1 = -1 and 2^18; p1 = 0 and 2^18 - 1. -/
theorem witness_EncPllResult :
    (0 : Nat) = 0 ∧ 2 ^ 20 - 1 < 1048576 ∧ (0 < 1 ∧ 1 ≤ 2 ^ 20 - 1 ∧ 1 ≤ 1) ∧
    (0 < 128 ∧ 128 ≤ 2 ^ 20 - 1 ∧ 127 < 128 ∧ 127 = 128 * 127 / 128 ∧ (-1 : Int) = 128 * (3 : Nat) + (127 : Nat) - 512 ∧
      (0 : Int) = 128 * (127 : Nat) - (128 : Nat) * (127 : Nat) ∧ (-1 : Int) < 0) ∧
    ((2 ^ 18 : Int) = 128 * (2052 : Nat) + (0 : Nat) - 512 ∧ (2 ^ 18 - 1 : Int) < 2 ^ 18) ∧
    ((0 : Int) = 128 * (4 : Nat) + (0 : Nat) - 512) ∧ ((2 ^ 18 - 1 : Int) = 128 * (2051 : Nat) + (127 : Nat) - 512) := by
  decide
theorem witness_EncPllLanes : 1048574 < 1048575 ∧ 1048575 < 2 ^ 20 ∧ 4 ≤ 2051 ∧ 2051 ≤ 2051 ∧
    262143 + 512 = 128 * 2051 + 128 * 1048574 / 1048575 ∧ 1048447 = 128 * 1048574 % 1048575 := by decide
theorem witness_PllRangeOfA : 127 < 128 ∧ 128 < 2 ^ 20 := by decide
theorem witness_PllBlockRedundancy : ∃ t B, exec (.encPll 24 999999 1000000) State.reset = .next t ∧ t.out = .result (.ok B) :=
  ⟨_, ⟨0x42, 0x40, 0xF0, 0x0A, 0x7F, 0xFF, 0x41, 0xC0⟩, rfl, by decide⟩
/-- The clauses of PllRecoverable: an accepted request, and two accepted ones of the same ratio with different c. -/
theorem witness_PllRecoverable : (0 < 1 ∧ 1 < 2 ^ 20 ∧ 4 ≤ 4 ∧ 4 ≤ 2051) ∧
    (∃ t B, exec (.encPll 24 1 2) State.reset = .next t ∧ t.out = .result (.ok B)) ∧
    (∃ t B, exec (.encPll 24 2 4) State.reset = .next t ∧ t.out = .result (.ok B)) ∧ 2 ≠ 4 :=
  ⟨by decide, ⟨_, ⟨0x00, 0x02, 0x00, 0x0A, 0x40, 0x00, 0x00, 0x00⟩, rfl, by decide⟩,
    ⟨_, ⟨0x00, 0x04, 0x00, 0x0A, 0x40, 0x00, 0x00, 0x00⟩, rfl, by decide⟩, by decide⟩
/-- Each clause of EncMsResult: dividers 3 and 2052; r = 0; r = 3 under STRICT; n = 16 and 15 under each policy. -/
theorem witness_EncMsResult :
    (3 < 4 ∧ 2051 < 2052) ∧ (4 ≤ 4 ∧ 2051 ≤ 2051) ∧ State.reset.params.rPolicy = .strict ∧
    (0 < 3 ∧ ¬ ∃ k, 3 = 2 ^ k) ∧ (∃ k, 65536 = 2 ^ k) ∧ (2 ^ 16 ≤ 65536 ∧ 65536 < 2 ^ (16 + 1) ∧ 15 < 16) ∧
    floorState.params.rPolicy = .floor ∧ (2 ^ 15 ≤ 65535 ∧ 65535 < 2 ^ (15 + 1) ∧ 15 ≤ 15) := by
  refine ⟨by decide, by decide, rfl, ⟨by decide, ?_⟩, ⟨16, rfl⟩, by decide, rfl, by decide⟩
  rintro ⟨k, hk⟩
  rcases k with _ | _ | k
  · omega
  · omega
  · have := Nat.pow_succ (n := 2) (m := k + 1); have := Nat.pow_succ (n := 2) (m := k); omega
theorem witness_EncMsLanes : 4 ≤ 2051 ∧ 2051 ≤ 2051 ∧ 262016 = 128 * 2051 - 512 ∧ 2 ^ 15 ≤ 32768 ∧ 32768 < 2 ^ (15 + 1) ∧
    15 ≤ 15 ∧ 32768 = 2 ^ 15 ∧ (2 ^ 15 ≤ 65535 ∧ 65535 < 2 ^ (15 + 1) ∧ floorState.params.rPolicy = .floor) := by decide
theorem witness_DivideByFourBlock : (2 ^ 15 ≤ 65535 ∧ 65535 < 2 ^ (15 + 1) ∧ 15 ≤ 15 ∧ floorState.params.rPolicy = .floor) ∧ 5 ≠ 4 ∧ ∃ t B, exec (.encMs 5 2 0) State.reset = .next t ∧ t.out = .result (.ok B) :=
  ⟨by decide, by decide, _, ⟨0x00, 0x01, 0x10, 0x00, 0x80, 0x00, 0x00, 0x00⟩, rfl, by decide⟩
theorem witness_MsIgnoresZ : (Request.make 1 4 128 0).op = 1 ∧ (Request.make 1 4 128 0xDEADBEEF).op = 1 ∧
    (Request.make 1 4 128 0).x = (Request.make 1 4 128 0xDEADBEEF).x ∧
    (Request.make 1 4 128 0).y = (Request.make 1 4 128 0xDEADBEEF).y := by decide
theorem witness_MsRecoverable : ∃ t B, exec (.encMs 2051 32768 0) State.reset = .next t ∧ t.out = .result (.ok B) :=
  ⟨_, ⟨0x00, 0x01, 0xF3, 0xFF, 0x80, 0x00, 0x00, 0x00⟩, rfl, by decide⟩
theorem witness_ErrLanesHaveNoValue : ∃ t, exec (.encPll 0 0 0) State.reset = .next t ∧ t.out = .result (.err .divZero) :=
  ⟨_, rfl, by decide⟩
theorem witness_FlattenedWord : (burstState []).out = .result (.ok blockP1) := rfl
theorem witness_OperationFrame : ∃ t, exec (.encMs 4 1 0) clocked = .next t := ⟨_, rfl⟩
theorem witness_ResultIsAFunctionOfRequest : (Request.make 1 4 1 0).op = (Request.make 1 4 1 7).op ∧
    (Request.make 1 4 1 0).x = (Request.make 1 4 1 7).x ∧ (Request.make 1 4 1 0).y = (Request.make 1 4 1 7).y ∧
    ((Request.make 1 4 1 0).op = 0 → (Request.make 1 4 1 0).z = (Request.make 1 4 1 7).z) ∧
    ((Request.make 1 4 1 0).op = 1 → State.reset.params.rPolicy = clocked.params.rPolicy) := by decide
theorem witness_StepRunsRequest : BareRequest State.reset ∧ State.reset.params.latency = 0 ∧
    decodeTableWord 104 0x1_00000004_00000080_DEADBEEF = some (.encMs 4 128 0xDEADBEEF) := ⟨⟨rfl, rfl⟩, rfl, by decide⟩
theorem witness_StepAnswersPlacedRequest : clocked.params.latency ≠ 0 ∧
    decodeTableWord 104 0x1_00000004_00000080_DEADBEEF = some (.encMs 4 128 0xDEADBEEF) := by decide
/-- A machine whose program is one call. -/
def calling (c : Call) (l : List BusReport) : State := { State.reset with program := [c], transport := l }
theorem witness_StepRunsCalledRequest :
    (calling (.setupPll .a 36 0 1) []).consumer = .ready ∧ (calling (.setupPll .a 36 0 1) []).params.latency = 0 ∧
    (calling (.setupPll .a 36 0 1) []).program = .setupPll .a 36 0 1 :: [] ∧
    (calling (.setupMs 0 100 1) []).program = .setupMs 0 100 1 :: [] := by decide
theorem witness_ResponseAfterLatency :
    let s : State := { clocked with req := true }
    BareRequest s ∧ s.params.latency ≠ 0 ∧ s.rst = false ∧ s.req = true ∧ s.inFlight = [] ∧ 0 < 2 ∧ 2 < s.params.latency :=
  ⟨⟨rfl, rfl⟩, by decide, rfl, rfl, rfl, by decide, by decide⟩
theorem witness_ClockedResetClears :
    let s : State := { clocked with rst := true }
    BareRequest s ∧ s.params.latency ≠ 0 ∧ s.rst = true := ⟨⟨rfl, rfl⟩, by decide, rfl⟩
/-- The clauses of OperandsMustBeHeld: operands that moved earlier, that move now, and that were held. -/
theorem witness_OperandsMustBeHeld :
    let s (f : Flight) : State := { clocked with inFlight := [f] }
    let moved : Flight := ⟨0, 1, false⟩
    let moving : Flight := ⟨1, 1, true⟩
    let kept : Flight := ⟨0, 1, true⟩
    (∀ f, BareRequest (s f) ∧ (s f).params.latency ≠ 0 ∧ (s f).rst = false) ∧
    ((s moved).inFlight = moved :: [] ∧ moved.left = 1 ∧ moved.held = false) ∧
    ((s moving).inFlight = moving :: [] ∧ moving.left = 1 ∧ moving.request ≠ (s moving).request) ∧
    ((s kept).inFlight = kept :: [] ∧ kept.left = 1 ∧ kept.held = true ∧ kept.request = (s kept).request) :=
  ⟨fun _ => ⟨⟨rfl, rfl⟩, (by decide : (3 : Nat) ≠ 0), rfl⟩, by decide, by decide, by decide⟩
theorem witness_ErrStopsTheProgram :
    (calling (.setupPll .a 3 0 1) []).program = .setupPll .a 3 0 1 :: [] ∧
    resultOf State.reset.params.rPolicy (.encPll (3 : Word).toNat (0 : Word).toNat (1 : Word).toNat) = .err .p1Range ∧
    (calling (.setupMs 0 6 3) []).program = .setupMs 0 6 3 :: [] ∧
    resultOf State.reset.params.rPolicy (.encMs (6 : Word).toNat (3 : Word).toNat 0) = .err .rNotPow2 := by decide
theorem witness_ErrStopsTheProgram_clocked :
    let s : State := { clocked with consumer := .awaiting (.pll .a), rsp := true, out := .result (.err .p1Range) }
    (s.consumer = .awaiting (.pll .a) ∧ s.responded = true ∧ s.out = .result (.err .p1Range)) ∧
    { clocked with program := [.setupMs 0 6 3] }.program = .setupMs 0 6 3 :: [] ∧ clocked.consumer = .ready ∧ clocked.rst = false ∧
    clocked.inFlight = [] ∧
    resultOf clocked.params.rPolicy (.encMs (6 : Word).toNat (3 : Word).toNat 0) = .err .rNotPow2 := by decide
theorem witness_SetupCallCycles :
    let s : State := { clocked with program := [.setupMs 2 900 128] }
    s.consumer = .ready ∧ s.params.latency ≠ 0 ∧ s.rst = false ∧ s.inFlight = [] ∧
    ((∃ pll a b c, s.program = .setupPll pll a b c :: [] ∧ Target.ms 2 = .pll pll ∧
        Request.make 1 900 128 0 = Request.make 0 a b c) ∨
     (∃ pin divider r, s.program = .setupMs pin divider r :: [] ∧ Target.ms 2 = .ms pin ∧
        Request.make 1 900 128 0 = Request.make 1 divider r 0)) ∧ 0 < 2 ∧ 2 < s.params.latency :=
  ⟨rfl, by decide, rfl, rfl, .inr ⟨2, 900, 128, rfl, rfl, rfl⟩, by decide, by decide⟩
/-- At LATENCY 0 and at LATENCY 3. -/
theorem witness_SetupPllWritesBlock :
    let call : Call := .setupPll .b 24 999999 1000000
    let s := calling call [.success]
    let s' : State := { clocked with program := [call], transport := [.success] }
    (s.consumer = .ready ∧ s.params.latency = 0 ∧ s.program = call :: [] ∧ s.transport = .success :: []) ∧
    (s'.consumer = .ready ∧ (s'.rst = false ∧ s'.inFlight = []) ∧ s'.program = call :: [] ∧ s'.transport = .success :: []) ∧
    (999999 : Word).toNat < (1000000 : Word).toNat ∧ (1000000 : Word).toNat < 2 ^ 20 ∧
    4 ≤ (24 : Word).toNat ∧ (24 : Word).toNat ≤ 2051 ∧
    2687 + 512 = 128 * (24 : Word).toNat + 128 * (999999 : Word).toNat / (1000000 : Word).toNat ∧
    999872 = 128 * (999999 : Word).toNat % (1000000 : Word).toNat ∧ 34 = (match Pll.b with | .a => 26 | .b => 34) := by decide
/-- Under STRICT at LATENCY 3, and under FLOOR at LATENCY 0 with an r that is no power of two. -/
theorem witness_SetupMsWritesBlock :
    let s' : State := { clocked with program := [.setupMs 2 900 128], transport := [.success] }
    let s : State := { floorState with program := [.setupMs 2 900 255], transport := [.success] }
    (s'.consumer = .ready ∧ (s'.rst = false ∧ s'.inFlight = []) ∧ s'.program = .setupMs 2 900 128 :: [] ∧
      s'.transport = .success :: [] ∧ (128 : Word).toNat = 2 ^ 7) ∧
    (s.consumer = .ready ∧ s.params.latency = 0 ∧ s.program = .setupMs 2 900 255 :: [] ∧ s.transport = .success :: [] ∧
      s.params.rPolicy = .floor) ∧
    4 ≤ (900 : Word).toNat ∧ (900 : Word).toNat ≤ 2051 ∧ (2 ^ 7 ≤ (128 : Word).toNat ∧ (128 : Word).toNat < 2 ^ (7 + 1)) ∧
    (2 ^ 7 ≤ (255 : Word).toNat ∧ (255 : Word).toNat < 2 ^ (7 + 1)) ∧ 7 ≤ 15 ∧
    114688 = 128 * (900 : Word).toNat - 512 ∧ 58 = 42 + 8 * (2 : Pin).val := by decide
theorem witness_BurstWritesItsLanes : (burstState [.success]).consumer = .bursting (.pll .a) ∧
    (burstState [.success]).op = targetOp (.pll .a) ∧ (burstState [.success]).out = .result (.ok blockP1) ∧
    (burstState [.success]).transport = .success :: [] := by decide
theorem witness_FailedBurstOldOrNew : (burstState [.failed 0x0F]).consumer = .bursting (.pll .a) ∧
    (burstState [.failed 0x0F]).op = targetOp (.pll .a) ∧ (burstState [.failed 0x0F]).out = .result (.ok blockP1) ∧
    (burstState [.failed 0x0F]).transport = .failed 0x0F :: [] := by decide
theorem witness_RewriteChangesNothing : (burstState [.success, .success]).consumer = .bursting (.pll .a) ∧
    (burstState [.success, .success]).op = targetOp (.pll .a) ∧
    (burstState [.success, .success]).out = .result (.ok blockP1) ∧
    (burstState [.success, .success]).transport = .success :: .success :: [] := by decide
theorem witness_WrongKindIsRefused :
    let s : State := { State.reset with consumer := .bursting (.ms 0) }
    s.consumer = .bursting (.ms 0) ∧ s.op ≠ targetOp (.ms 0) := by decide
theorem witness_ConsumerBlocksOnTransport :
    let r : State := { State.reset with consumer := .reading (.power 0 1) }
    let w : State := { State.reset with consumer := .writing [(3, 0xFF)] }
    (r.transport = [] ∧ r.consumer = .reading (.power 0 1)) ∧ (w.transport = [] ∧ w.consumer = .writing ((3, 0xFF) :: [])) ∧
    ((burstState []).transport = [] ∧ (burstState []).consumer = .bursting (.pll .a) ∧
      (burstState []).op = targetOp (.pll .a) ∧ (burstState []).out = .result (.ok blockP1)) := by decide
theorem witness_InitDeviceOrder :
    let s := calling (.initDevice [(100, 5)]) [.success, .success, .success, .success, .success, .success]
    s.consumer = .ready ∧ s.program = .initDevice [(100, 5)] :: [] ∧
    s.transport = List.replicate ([((100 : Byte), (5 : Byte))].length + 5) .success ++ [] ∧
    6 ≤ [((100 : Byte), (5 : Byte))].length + 5 := by decide
theorem witness_FailedWriteAborts :
    let s : State := { State.reset with consumer := .writing [(3, 0xFF)], transport := [.failed 1] }
    s.consumer = .writing ((3, 0xFF) :: []) ∧ s.transport = .failed 1 :: [] := by decide
theorem witness_ResetPllWritesItsBit : (calling (.resetPll .b) [.success]).consumer = .ready ∧
    (calling (.resetPll .b) [.success]).program = .resetPll .b :: [] ∧
    (calling (.resetPll .b) [.success]).transport = .success :: [] := by decide
/-- The clauses of ResetStartsPllFromItsBlock: the reset (the hypotheses of ResetPllWritesItsBit, with another PLL to leave
alone), and a burst over a block whose PLL started from an unknown register 26. -/
theorem witness_ResetStartsPllFromItsBlock : Pll.a ≠ Pll.b ∧
    let s : State := { burstState [.success] with startA := some [none, none, none, none, none, none, none, none] }
    s.consumer = .bursting (.pll .a) ∧ s.op = targetOp (.pll .a) ∧ s.out = .result (.ok blockP1) ∧
    s.transport = .success :: [] ∧ s.start .a = some [none, none, none, none, none, none, none, none] ∧
    ∃ t, step s = .next t ∧ [(none : Option Byte), none, none, none, none, none, none, none][(0 : Fin 8).val]? ≠
      some (t.device.read (blockRegister (.pll .a) 0)) :=
  ⟨by decide, by decide, by decide, by decide, by decide, by decide, _, rfl, by decide⟩
theorem witness_OnlyResetStartsPll :
    let s : State := { State.reset with consumer := .writing [(177, 0x80)], transport := [.success] }
    ∃ t, step s = .next t ∧ t.start .a ≠ s.start .a := ⟨_, rfl, by decide⟩
theorem witness_ReadModifyWrite :
    let s (c : Call) := calling c [.success, .success]
    ∀ c, (s c).consumer = .ready ∧ (s c).transport = .success :: .success :: [] ∧ (s c).program = c :: [] :=
  fun _ => ⟨rfl, rfl, rfl⟩
theorem witness_FailedReadEndsCall :
    let s (c : Call) := calling c [.failed 0]
    ∀ c, (s c).consumer = .ready ∧ (s c).transport = .failed 0 :: [] ∧ (s c).program = c :: [] := fun _ => ⟨rfl, rfl, rfl⟩
theorem witness_RegisterMapOfBursts : purposeOf 26 = .parameterBlock (.pll .a) ∧ purposeOf 65 = .parameterBlock (.ms 2) := by
  decide
theorem witness_StepKeepsCombinational : Combinational State.reset ∧ ∃ t, step State.reset = .next t :=
  ⟨fun _ => by decide, _, rfl⟩
theorem witness_StepKeepsPipelineOrdered :
    let s : State := { clocked with inFlight := [⟨0, 1, true⟩, ⟨0, 2, true⟩] }
    PipelineOrdered s ∧ ∃ t, step s = .next t :=
  ⟨⟨by decide, by decide⟩, _, rfl⟩
theorem witness_StepKeepsConsumerSound :
    let s : State := { clocked with consumer := .awaiting (.pll .a), inFlight := [⟨0, 2, true⟩] }
    (ConsumerSound s ∧ ∃ t, step s = .next t) ∧ (ConsumerSound (burstState [.success]) ∧ ∃ t, step (burstState [.success]) = .next t) := by
  refine ⟨⟨⟨by decide, fun f hf => ?_⟩, _, rfl⟩, ⟨by decide, blockP1, rfl⟩, _, rfl⟩
  cases hf
  decide
theorem witness_StepKeepsDeviceWf : DeviceWf (burstState [.success]) ∧ ∃ t, step (burstState [.success]) = .next t :=
  ⟨rfl, _, rfl⟩
theorem witness_SoundStepGoesOn : ConsumerSound State.reset ∧ ConsumerSound (burstState []) := ⟨trivial, by decide, blockP1, rfl⟩
theorem witness_StepKeepsParameters : ∃ t, step clocked = .next t := ⟨_, rfl⟩
/-- Both ways a register changes: a burst that writes register 29, and a controller write. -/
theorem witness_OnlyTheConsumerWrites :
    (∃ t, step (burstState [.success]) = .next t ∧ t.device.read 29 ≠ (burstState [.success]).device.read 29) ∧
    (∃ t, step { State.reset with consumer := .writing [(3, 0xFF)], transport := [.success] } = .next t ∧
      t.device.read 3 ≠ State.reset.device.read 3) :=
  ⟨⟨_, rfl, by decide⟩, ⟨_, rfl, by decide⟩⟩

end Sys2Proof.Tests
end

