-- ==== Sys2Proof/Proofs/Scope.lean ====
section
/-! The parameters of R4 and R31 through every turn, and the machine at power-up. -/

namespace Sys2Proof

open Sys2Proof.Machine

/-! ## R_POLICY and LATENCY: each turn leaves them (R4, R31; log 3) -/

section Parameters

variable {s t : State}

theorem blockStep_keeps_params (h : blockStep s = .next t) : t.params = s.params := by
  obtain ⟨b, fs, o, hb⟩ := blockStep_form s
  cases hb.symm.trans h
  simp

theorem takeResponse_keeps_params (h : takeResponse s = .next t) : t.params = s.params := by
  obtain rfl | ⟨_, _, _, _, _, rfl⟩ | ⟨_, _, _, _, _, rfl⟩ := takeResponse_cases s h <;> simp

theorem serve_keeps_params (h : serve s = .next t) : t.params = s.params := by
  obtain ⟨b, fs, o, -, ht⟩ := serve_cases s h
  simpa using takeResponse_keeps_params ht

theorem beginCall_keeps_params {c : Call} (h : beginCall c s = .next t) : t.params = s.params := by
  obtain ⟨_, _, _, hs⟩ | ⟨_, rfl⟩ | ⟨_, rfl⟩ := beginCall_cases s h
  · simpa using serve_keeps_params hs
  · simp
  · simp

theorem readyStep_keeps_params (h : readyStep s = .next t) : t.params = s.params := by
  unfold readyStep at h
  split at h
  · exact blockStep_keeps_params h
  · simpa using beginCall_keeps_params h

theorem burstStep_keeps_params {g : Target} (h : burstStep g s = .next t) : t.params = s.params := by
  obtain ⟨_, _, _, ⟨_, rfl⟩ | ⟨_, _, _, rfl⟩⟩ := burstStep_cases s h <;> simp

theorem readStep_keeps_params {m : Rmw} (h : readStep m s = .next t) : t.params = s.params := by
  obtain ⟨_, hr⟩ | ⟨_, _, hr⟩ | ⟨_, _, _, hr⟩ := readStep_cases s m <;>
  · cases hr.symm.trans h
    simp

theorem writeStep_keeps_params {ws : List (Byte × Byte)} (h : writeStep ws s = .next t) : t.params = s.params := by
  obtain ⟨_, hw⟩ | ⟨_, hw⟩ | ⟨_, _, _, _, _, hw⟩ | ⟨_, _, _, _, _, _, hw⟩ := writeStep_cases s ws <;>
  · cases hw.symm.trans h
    simp

end Parameters

/-- Settles O49: whoever has the turn, its step leaves the parameters. -/
theorem stepKeepsParameters : Obligations.StepKeepsParameters := by
  intro s t h
  rw [step_eq] at h
  cases hc : s.consumer with rw [hc] at h
  | ready => exact readyStep_keeps_params h
  | awaiting _ => exact serve_keeps_params h
  | bursting _ => exact burstStep_keeps_params h
  | reading _ => exact readStep_keeps_params h
  | writing _ => exact writeStep_keeps_params h

/-! ## Power-up (R140, R141, R142) -/

section PowerUp

variable (p : Params)

/-- The all-zero ports carry an ENC_PLL request with c = 0 (R61; log 1). -/
theorem decode_powerUp_request : decode (State.powerUp p).request = .encPll 0 0 0 := by
  have hz : decode (Request.make 0 0 0 0) = .encPll 0 0 0 := by decide
  exact hz

/-- The outputs are the E_DIV_ZERO of the request on the ports (R85, R140). -/
theorem combinational_powerUp : Combinational (State.powerUp p) := by
  intro hl
  have ho : (State.powerUp p).out = .result (.err .divZero) := if_pos hl
  rw [ho, decode_powerUp_request, resultOf, encodePll_cases, if_pos rfl]

theorem pipelineOrdered_powerUp : PipelineOrdered (State.powerUp p) :=
  ⟨List.Pairwise.nil, fun _ hf => absurd hf List.not_mem_nil⟩

theorem readErr_powerUp_of_latency_ne_zero (h : p.latency ≠ 0) :
    (State.powerUp p).readErr = .error .outputHasNoValue := by
  have ho : (State.powerUp p).out = .noValue := if_neg h
  rw [State.readErr, ho]
  rfl

end PowerUp

/-- Settles O43: nothing is in flight, awaited or written, and the outputs are those of the all-zero request or hold no
value. -/
theorem powerUpState : Obligations.PowerUpState := by
  refine ⟨rfl, fun p => ⟨combinational_powerUp p, pipelineOrdered_powerUp p, ?consumer, ?device, rfl, rfl, ?unwritten,
    readErr_powerUp_of_latency_ne_zero p⟩⟩
  case consumer => exact trivial
  case device => exact rfl
  case unwritten => exact fun _ => rfl

end Sys2Proof
end

section
/-! The eight lanes of a result as numbers (R24, R26, R27), and the frame and the inputs of the two operations (R25, R32). -/

namespace Sys2Proof

open Sys2Proof.Machine

/-! ## Lanes as numbers -/

/-- The eight lanes as numbers, B[0] first (R24). -/
def Machine.Block.lanes (B : Block) : List Nat := laneOrder.map fun k => (B.lane k).toNat

theorem lanes_getElem? (B : Block) (k : Fin 8) : B.lanes[k.val]? = some (B.lane k).toNat := by
  fin_cases k <;> rfl

theorem readBlock_of_out_ok {s : State} {B : Block} (h : s.out = .result (.ok B)) : s.readBlock = .ok B := by
  rw [State.readBlock, h, Output.read]

theorem readLane_of_out_ok {s : State} {B : Block} (h : s.out = .result (.ok B)) (k : Fin 8) :
    s.readLane k = .ok (B.lane k) := by
  rw [State.readLane, readBlock_of_out_ok h]

theorem holdsLanes_of_out_ok {s : State} {B : Block} (h : s.out = .result (.ok B)) : HoldsLanes s B.lanes :=
  ⟨rfl, fun k => ⟨B.lane k, readLane_of_out_ok h k, lanes_getElem? B k⟩⟩

theorem toNat_eq_nibbles (v : Byte) : v.toNat = (v.extractLsb 7 4).toNat * 2 ^ 4 + (v.extractLsb 3 0).toNat := by
  have := v.isLt
  simp only [BitVec.extractLsb_toNat, Nat.shiftRight_eq_div_pow]
  omega

theorem toNat_eq_nibble_pairs (v : Byte) :
    v.toNat = (v.extractLsb 7 4).toNat * 2 ^ 4 + (v.extractLsb 3 2).toNat * 2 ^ 2 + (v.extractLsb 1 0).toNat := by
  have := v.isLt
  simp only [BitVec.extractLsb_toNat, Nat.shiftRight_eq_div_pow]
  omega

theorem toNat_extractLsb_17_16 (v : BitVec 18) : (v.extractLsb 17 16).toNat = v.toNat / 2 ^ 16 := by
  have := v.isLt
  simp only [BitVec.extractLsb_toNat, Nat.shiftRight_eq_div_pow]
  omega

theorem toNat_extractLsb_19_16 (v : BitVec 20) : (v.extractLsb 19 16).toNat = v.toNat / 2 ^ 16 := by
  have := v.isLt
  simp only [BitVec.extractLsb_toNat, Nat.shiftRight_eq_div_pow]
  omega

/-- The lanes of a packed block, in which p3[19:16] and n share the top nibble of B[2] (R26, R27, R64). -/
theorem lanes_pack (p1 : BitVec 18) (p2 p3 : BitVec 20) (n : BitVec 4) (dv : BitVec 2) :
    (pack p1 p2 p3 n dv).lanes =
      [p3.toNat / 2 ^ 8 % 2 ^ 8, p3.toNat % 2 ^ 8,
       (p3.extractLsb 19 16 ||| n).toNat * 2 ^ 4 + dv.toNat * 2 ^ 2 + p1.toNat / 2 ^ 16,
       p1.toNat / 2 ^ 8 % 2 ^ 8, p1.toNat % 2 ^ 8,
       p3.toNat / 2 ^ 16 * 2 ^ 4 + p2.toNat / 2 ^ 16, p2.toNat / 2 ^ 8 % 2 ^ 8, p2.toNat % 2 ^ 8] := by
  have third : (pack p1 p2 p3 n dv).b2.toNat =
      (p3.extractLsb 19 16 ||| n).toNat * 2 ^ 4 + dv.toNat * 2 ^ 2 + p1.toNat / 2 ^ 16 := by
    obtain ⟨hi, mid, lo⟩ := thirdByte_parts (p3.extractLsb 19 16) n dv (p1.extractLsb 17 16)
    rw [toNat_eq_nibble_pairs, pack, hi, mid, lo, toNat_extractLsb_17_16]
  have sixth : (pack p1 p2 p3 n dv).b5.toNat = p3.toNat / 2 ^ 16 * 2 ^ 4 + p2.toNat / 2 ^ 16 := by
    obtain ⟨hi, lo⟩ := sixthByte_parts (p3.extractLsb 19 16) (p2.extractLsb 19 16)
    rw [toNat_eq_nibbles, pack, hi, lo, toNat_extractLsb_19_16, toNat_extractLsb_19_16]
  simp only [Block.lanes, laneOrder, List.map, Block.lane, third, sixth]
  simp only [pack, BitVec.extractLsb_toNat, Nat.shiftRight_eq_div_pow, Nat.pow_zero, Nat.div_one]

/-! ## What the encoders accept, lane by lane -/

/-- The lanes of a PLL block with these fields (R26). -/
def pllLanes (p1 p2 p3 : Nat) : List Nat :=
  [p3 / 2 ^ 8 % 2 ^ 8, p3 % 2 ^ 8, p3 / 2 ^ 16 * 2 ^ 4 + p1 / 2 ^ 16, p1 / 2 ^ 8 % 2 ^ 8, p1 % 2 ^ 8,
    p3 / 2 ^ 16 * 2 ^ 4 + p2 / 2 ^ 16, p2 / 2 ^ 8 % 2 ^ 8, p2 % 2 ^ 8]

/-- The lanes of a multisynth block with these fields, p2 = 0 and p3 = 1 (R27, R106). -/
def msLanes (p1 n dv : Nat) : List Nat :=
  [0x00, 0x01, n * 2 ^ 4 + dv * 2 ^ 2 + p1 / 2 ^ 16, p1 / 2 ^ 8 % 2 ^ 8, p1 % 2 ^ 8, 0x00, 0x00, 0x00]

theorem encodePll_accepted {a b c p1 p2 : Nat} (hb : b < c) (hc : c < 2 ^ 20) (ha : 4 ≤ a) (ha' : a ≤ 2051)
    (h1 : p1 + 512 = 128 * a + 128 * b / c) (h2 : p2 = 128 * b % c) :
    ∃ B, encodePll a b c = .ok B ∧ B.lanes = pllLanes p1 p2 c := by
  have hf : 128 * b / c < 128 := pllF_lt hb
  have hm : 128 * b % c < c := Nat.mod_lt _ (by omega)
  have hp1 : pllP1 a b c = p1 := by unfold pllP1 pllF; omega
  have hp2 : pllP2 b c = p2 := by rw [pllP2_eq, h2]
  have e1 := toNat_ofInt_of_fits (w := 18) hp1 (by omega)
  have e2 := toNat_ofInt_of_fits (w := 20) hp2 (by omega)
  have e3 := toNat_ofInt_of_fits (w := 20) (v := pllP3 c) rfl hc
  refine ⟨_, encodePll_ok hc hb ⟨ha, ha'⟩, ?_⟩
  rw [packFields, lanes_pack, e1, e2, e3]
  have hi : (BitVec.ofInt 20 (pllP3 c)).extractLsb 19 16 ||| BitVec.ofNat 4 0 =
      (BitVec.ofInt 20 (pllP3 c)).extractLsb 19 16 :=
    BitVec.or_zero
  rw [hi, toNat_extractLsb_19_16, e3]
  rfl

theorem encodePll_eq_ok {a b c : Nat} {B : Block} (h : encodePll a b c = .ok B) :
    b < c ∧ c < 2 ^ 20 ∧ 4 ≤ a ∧ a ≤ 2051 := by
  rw [encodePll_cases] at h
  split_ifs at h with h0 hc hb ha
  omega

theorem encodeMs_accepted {policy : RPolicy} {divider r n p1 : Nat} (hd : 4 ≤ divider) (hd' : divider ≤ 2051)
    (h1 : p1 = 128 * divider - 512) (hr : 2 ^ n ≤ r) (hr' : r < 2 ^ (n + 1)) (hn : n ≤ 15)
    (hp : policy = .floor ∨ r = 2 ^ n) :
    ∃ B, encodeMs policy divider r = .ok B ∧ B.lanes = msLanes p1 n (if divider = 4 then 3 else 0) := by
  have h0 : r ≠ 0 := fun h => by simp [h] at hr
  have hlog : msExponent r = n := (Nat.log2_eq_iff h0).2 ⟨hr, hr'⟩
  have hr16 : r < 2 ^ 16 := hr'.trans_le (Nat.pow_le_pow_right (by decide) (by omega))
  have e1 := toNat_ofInt_of_fits (w := 18) (v := msP1 divider) (n := p1) (by unfold msP1; omega) (by omega)
  have e3 : (1#20).extractLsb 19 16 = 0#4 := by decide
  refine ⟨_, encodeMs_ok ⟨hd, hd'⟩ h0 hr16 (hp.imp_right fun h => ⟨n, h⟩), ?_⟩
  have hdv : (divBy4Flag divider).toNat = if divider = 4 then 3 else 0 := by unfold divBy4Flag; split <;> rfl
  have hnib : n < 16 := by omega
  rw [packFields, lanes_pack, e1, hdv, hlog]
  simp [msLanes, e3, hnib]

/-! ## The lanes of a result -/

theorem exec_holdsLanes {s : State} {i : Instr} {B : Block} (h : resultOf s.params.rPolicy i = .ok B) :
    ∃ t, exec i s = .next t ∧ HoldsLanes t B.lanes :=
  ⟨_, exec_eq s i, holdsLanes_of_out_ok (by rw [State.setOut_out, h])⟩

/-- Settles O5: the request is accepted, and its block is packed lane by lane. -/
theorem encPllLanes : Obligations.EncPllLanes := by
  intro a b c p1 p2 s hb hc ha ha' h1 h2
  obtain ⟨B, hB, hl⟩ := encodePll_accepted hb hc ha ha' h1 h2
  rw [pllLanes] at hl
  exact hl ▸ exec_holdsLanes hB

/-- Settles O10: the request is accepted, and its block is packed lane by lane. -/
theorem encMsLanes : Obligations.EncMsLanes := by
  intro divider r z n p1 s hd hd' h1 hr hr' hn hp
  obtain ⟨B, hB, hl⟩ := encodeMs_accepted hd hd' h1 hr hr' hn hp
  rw [msLanes] at hl
  exact hl ▸ exec_holdsLanes (i := .encMs divider r z) hB

/-- Settles O7: an `Ok` block is that of accepted operands, in which p3[19:16] stands at the top of B[2] and of B[5]. -/
theorem pllBlockRedundancy : Obligations.PllBlockRedundancy := by
  intro a b c s t B ht ho
  cases (exec_eq s _).symm.trans ht
  have hok : encodePll a b c = .ok B := by simpa [resultOf] using ho
  obtain ⟨hb, hc, ha, ha'⟩ := encodePll_eq_ok hok
  have hf : 128 * b / c < 128 := pllF_lt hb
  have hm : 128 * b % c < c := Nat.mod_lt _ (by omega)
  obtain ⟨B', hB', hl⟩ := encodePll_accepted (p1 := 128 * a + 128 * b / c - 512) hb hc ha ha'
    (Nat.sub_add_cancel (Nat.le_add_right_of_le (by omega))) rfl
  cases hok.symm.trans hB'
  have h2 : some B.b2.toNat = _ := (lanes_getElem? B 2).symm.trans (congrArg (·[2]?) hl)
  have h5 : some B.b5.toNat = _ := (lanes_getElem? B 5).symm.trans (congrArg (·[5]?) hl)
  simp only [pllLanes, List.getElem?_cons_succ, List.getElem?_cons_zero, Option.some.injEq] at h2 h5
  omega

/-! ## The operations on the state -/

/-- Settles O18: an operation sets the outputs, and every other field of the state is untouched by that. -/
theorem operationFrame : Obligations.OperationFrame := by
  intro i s t h
  cases (exec_eq s i).symm.trans h
  simp

/-- Two ENC_PLL words with the same operands, or two ENC_MS words with the same first two under one policy, have one
result (R32, R62). -/
theorem resultOf_decode_congr {w w' : Request} {p p' : RPolicy} (ho : w.op = w'.op) (hx : w.x = w'.x) (hy : w.y = w'.y)
    (hz : w.op = 0 → w.z = w'.z) (hp : w.op = 1 → p = p') : resultOf p (decode w) = resultOf p' (decode w') := by
  by_cases h : w.op = 0
  · rw [decode, decode, if_pos h, if_pos (ho ▸ h), hx, hy, hz h, resultOf, resultOf]
  · have h1 : w.op = 1 := by
      have := w.op.isLt
      have : w.op.toNat ≠ 0 := fun e => h (BitVec.eq_of_toNat_eq e)
      exact BitVec.eq_of_toNat_eq (show w.op.toNat = 1 by omega)
    rw [decode, decode, if_neg h, if_neg (ho ▸ h), hx, hy, hp h1, resultOf, resultOf]

/-- Settles O19: an operation drives its result, which is a function of the word and the policy. -/
theorem resultIsAFunctionOfRequest : Obligations.ResultIsAFunctionOfRequest := by
  intro w w' s s' ho hx hy hz hp
  refine ⟨_, _, exec_eq s _, exec_eq s' _, ?_⟩
  rw [State.setOut_out, State.setOut_out, resultOf_decode_congr ho hx hy hz hp]

end Sys2Proof
end

section
/-! With `LATENCY` 0 the outputs stay a function of the inputs, whoever has the turn (R20, R23, R140). -/

namespace Sys2Proof

open Sys2Proof.Machine

section Combinational

variable {s t : State}

/-- Only the parameters, the outputs and the request on the ports show in it. -/
theorem combinational_congr (hp : t.params = s.params) (ho : t.out = s.out) (hr : t.request = s.request) :
    Combinational t ↔ Combinational s := by
  unfold Combinational
  rw [hp, ho, hr]

/-- The block's turn evaluates the request on the ports, whatever the outputs held before (R140). -/
theorem blockStep_combinational (h : blockStep s = .next t) : Combinational t := by
  intro hl
  have hls : s.params.latency = 0 := by rwa [← blockStep_keeps_params h]
  rw [blockStep_zero s hls, exec_eq] at h
  cases h
  simp

theorem takeResponse_keeps_combinational (hs : Combinational s) (h : takeResponse s = .next t) : Combinational t := by
  obtain rfl | ⟨_, _, _, _, _, rfl⟩ | ⟨_, _, _, _, _, rfl⟩ := takeResponse_cases s h
  · exact hs
  · exact (combinational_congr rfl rfl rfl).2 hs
  · exact (combinational_congr rfl rfl rfl).2 hs

theorem serve_combinational (h : serve s = .next t) : Combinational t := by
  obtain ⟨b, fs, o, hb, ht⟩ := serve_cases s h
  have hblock : Combinational ((s.setPipe b fs).setOut o) := blockStep_combinational hb
  have hreq : Combinational (((s.setPipe b fs).setOut o).setReq false) := (combinational_congr rfl rfl rfl).2 hblock
  exact takeResponse_keeps_combinational hreq ht

theorem beginCall_keeps_combinational {c : Call} (hs : Combinational s) (h : beginCall c s = .next t) :
    Combinational t := by
  obtain ⟨_, _, _, hserve⟩ | ⟨_, rfl⟩ | ⟨_, rfl⟩ := beginCall_cases s h
  · exact serve_combinational hserve
  · exact (combinational_congr rfl rfl rfl).2 hs
  · exact (combinational_congr rfl rfl rfl).2 hs

theorem readyStep_keeps_combinational (hs : Combinational s) (h : readyStep s = .next t) : Combinational t := by
  unfold readyStep at h
  split at h
  · exact blockStep_combinational h
  next _ cs _ =>
    have hcalled : Combinational (s.setProgram cs) := (combinational_congr rfl rfl rfl).2 hs
    exact beginCall_keeps_combinational hcalled h

theorem burstStep_keeps_combinational {g : Target} (hs : Combinational s) (h : burstStep g s = .next t) :
    Combinational t := by
  obtain ⟨_, _, _, ⟨_, rfl⟩ | ⟨_, _, _, rfl⟩⟩ := burstStep_cases s h
  · exact hs
  · exact (combinational_congr rfl rfl rfl).2 hs

theorem readStep_keeps_combinational {m : Rmw} (hs : Combinational s) (h : readStep m s = .next t) :
    Combinational t := by
  obtain ⟨_, hr⟩ | ⟨_, _, hr⟩ | ⟨_, _, _, hr⟩ := readStep_cases s m <;>
  · cases hr.symm.trans h
    exact (combinational_congr rfl rfl rfl).2 hs

theorem writeStep_keeps_combinational {ws : List (Byte × Byte)} (hs : Combinational s)
    (h : writeStep ws s = .next t) : Combinational t := by
  obtain ⟨_, hw⟩ | ⟨_, hw⟩ | ⟨_, _, _, _, _, hw⟩ | ⟨_, _, _, _, _, _, hw⟩ := writeStep_cases s ws <;>
  · cases hw.symm.trans h
    exact (combinational_congr (by simp) (by simp) (by simp)).2 hs

end Combinational

/-- Settles O44: a turn of the block evaluates the request afresh, and any other turn leaves the outputs, the request and
the parameters. -/
theorem stepKeepsCombinational : Obligations.StepKeepsCombinational := by
  intro s t hs h
  rw [step_eq] at h
  cases hc : s.consumer with rw [hc] at h
  | ready => exact readyStep_keeps_combinational hs h
  | awaiting _ => exact serve_combinational h
  | bursting _ => exact burstStep_keeps_combinational hs h
  | reading _ => exact readStep_keeps_combinational hs h
  | writing _ => exact writeStep_keeps_combinational hs h

end Sys2Proof
end

section
/-! A request in the pipeline from its REQ to its RSP (R140, R141): the block's turns for a bare requester. -/

namespace Sys2Proof

open Sys2Proof.Machine

/-! ## Several steps -/

theorem steps_one (s : State) : steps 1 s = step s := by
  rw [steps]
  cases step s <;> rfl

theorem steps_succ_of_step {s t : State} (h : step s = .next t) (k : Nat) : steps (k + 1) s = steps k t := by
  rw [steps, h, andThen]

/-- Steps after steps: where the first `k` go on, the rest start from the state they reach. -/
theorem steps_add_of_steps {k : Nat} (j : Nat) : ∀ {s t : State}, steps k s = .next t → steps (k + j) s = steps j t := by
  induction k with
  | zero =>
    intro s t h
    cases h
    rw [Nat.zero_add]
  | succ k ih =>
    intro s t h
    rw [Nat.succ_add, steps]
    rw [steps] at h
    cases hs : step s with
    | next u => rw [hs] at h; exact ih h
    | fault r => rw [hs] at h; cases h
    | refused r => rw [hs] at h; cases h

theorem step_of_ready {s : State} (h : s.consumer = .ready) : step s = readyStep s := by
  rw [step_eq, h]

theorem step_of_bareRequest {s : State} (h : BareRequest s) : step s = blockStep s := by
  obtain ⟨hc, hp⟩ := h
  rw [step_of_ready hc, readyStep, hp]

/-! ## One cycle for the oldest request (R141) -/

/-- The next request to be answered, counted at the start of a cycle, with the request that cycle strobes: it is the one
on the ports, it has been held, and it has `l` cycles to go; `fs` came after it. -/
def OldestDueIn (s : State) (l : Nat) (fs : List Flight) : Prop :=
  s.inFlight ++ s.strobed = ⟨s.request, l, true⟩ :: fs

section Cycle

variable {s : State} {l : Nat} {fs : List Flight}

theorem advance_of_oldestDueIn (h : OldestDueIn s (l + 1) fs) :
    s.advance = ⟨s.request, l, true⟩ :: fs.map (Flight.advance s.request) := by
  rw [State.advance, h]
  simp [Flight.advance]

/-- A request with more than one cycle to go waits for its response. -/
theorem clockEdge_of_oldestDueIn (hr : s.rst = false) (h : OldestDueIn s (l + 2) fs) :
    clockEdge s = .next (s.setPipe false (⟨s.request, l + 1, true⟩ :: fs.map (Flight.advance s.request))) :=
  clockEdge_wait s hr (advance_of_oldestDueIn h) (Nat.succ_ne_zero l)

/-- A request with one cycle to go is answered by its result. -/
theorem clockEdge_of_oldestDueIn_one (hr : s.rst = false) (h : OldestDueIn s 1 fs) :
    clockEdge s = .next ((s.setPipe true (fs.map (Flight.advance s.request))).setOut
      (.result (resultOf s.params.rPolicy (decode s.request)))) := by
  rw [clockEdge_due s hr (advance_of_oldestDueIn (l := 0) h) rfl rfl]

/-- A request strobed into an empty pipeline is the oldest, with all cycles to go. -/
theorem oldestDueIn_of_strobe (hq : s.req = true) (he : s.inFlight = []) : OldestDueIn s s.params.latency [] := by
  rw [OldestDueIn, he, State.strobed, if_pos hq, List.nil_append]

/-- A request in flight is the oldest, whatever this cycle strobes. -/
theorem oldestDueIn_setPipe (b : Bool) (gs : List Flight) :
    OldestDueIn (s.setPipe b (⟨s.request, l, true⟩ :: gs)) l (gs ++ s.strobed) := rfl

/-- Nothing in flight and nothing strobed: the cycle is no response, and the outputs stay. -/
theorem clockEdge_idle (hr : s.rst = false) (hq : s.req = false) (he : s.inFlight = []) :
    clockEdge s = .next (s.setPipe false []) :=
  clockEdge_empty s hr (by simp [State.advance, State.strobed, hq, he])

end Cycle

/-! ## A bare requester with `LATENCY` > 0 -/

/-- The block's turn for a bare requester is a cycle of CLK with RST low. -/
structure ClockedBare (s : State) : Prop where
  bare : BareRequest s
  clocked : s.params.latency ≠ 0
  noReset : s.rst = false

section Bare

variable {s : State} {l : Nat} {fs : List Flight}

theorem step_of_clockedBare (h : ClockedBare s) : step s = clockEdge s := by
  rw [step_of_bareRequest h.bare, blockStep_pos s h.clocked]

theorem clockedBare_setPipe (h : ClockedBare s) (b : Bool) (fs : List Flight) : ClockedBare (s.setPipe b fs) :=
  ⟨h.bare, h.clocked, h.noReset⟩

theorem clockedBare_setOut (h : ClockedBare s) (o : Output) : ClockedBare (s.setOut o) :=
  ⟨h.bare, h.clocked, h.noReset⟩

theorem clockedBare_setReq (h : ClockedBare s) (b : Bool) : ClockedBare (s.setReq b) :=
  ⟨h.bare, h.clocked, h.noReset⟩

/-- While the oldest request counts down, only RSP and the pipeline change, and RSP is 0 from the first cycle on. -/
theorem steps_before_response (k : Nat) : ∀ {s : State} {fs : List Flight}, ClockedBare s →
    OldestDueIn s (k + l + 1) fs → ∃ gs hs, steps k s = .next (s.setPipe (decide (k = 0) && s.rsp) gs) ∧
      OldestDueIn (s.setPipe (decide (k = 0) && s.rsp) gs) (l + 1) hs ∧ (s.strobed = [] → fs = [] → hs = []) := by
  induction k with
  | zero =>
    intro s fs _ hd
    rw [Nat.zero_add] at hd
    exact ⟨s.inFlight, fs, rfl, hd, fun _ h => h⟩
  | succ k ih =>
    intro s fs hb hd
    rw [show k + 1 + l + 1 = k + l + 2 by omega] at hd
    have hstep := (step_of_clockedBare hb).trans (clockEdge_of_oldestDueIn hb.noReset hd)
    obtain ⟨gs, hs, hsteps, hdue, hlone⟩ := ih (clockedBare_setPipe hb false _)
      (oldestDueIn_setPipe (s := s) false (fs.map (Flight.advance s.request)))
    rw [State.setPipe_rsp, Bool.and_false] at hsteps hdue
    refine ⟨gs, hs, (steps_succ_of_step hstep k).trans hsteps, hdue, fun hq hf => hlone hq ?_⟩
    rw [hq, hf, List.map_nil, List.append_nil]

/-- In the cycle the oldest request is due it is answered by RSP and its result. -/
theorem steps_response (hb : ClockedBare s) (hd : OldestDueIn s (l + 1) fs) :
    ∃ gs, steps (l + 1) s = .next ((s.setPipe true gs).setOut
      (.result (resultOf s.params.rPolicy (decode s.request)))) ∧ (s.strobed = [] → fs = [] → gs = []) := by
  obtain ⟨gs, hs, hsteps, hdue, hlone⟩ := steps_before_response (l := 0) l hb hd
  have hstep := (step_of_clockedBare (clockedBare_setPipe hb _ gs)).trans
    (clockEdge_of_oldestDueIn_one (clockedBare_setPipe hb _ gs).noReset hdue)
  refine ⟨_, (steps_add_of_steps 1 hsteps).trans ((steps_one _).trans hstep), fun hq hf => ?_⟩
  rw [hlone hq hf, List.map_nil]

/-- With nothing in flight and nothing strobed RSP is 0 from the first cycle on, and the outputs stay. -/
theorem steps_idle (k : Nat) : ∀ {s : State}, ClockedBare s → s.req = false → s.inFlight = [] →
    steps k s = .next (s.setPipe (decide (k = 0) && s.rsp) []) := by
  induction k with
  | zero =>
    intro s _ _ he
    rw [← he]
    rfl
  | succ k ih =>
    intro s hb hq he
    have hstep := (step_of_clockedBare hb).trans (clockEdge_idle hb.noReset hq he)
    rw [steps_succ_of_step hstep k, ih (clockedBare_setPipe hb false []) hq rfl, State.setPipe_rsp, Bool.and_false]
    rfl

/-- A lone request, with REQ low: RSP is asserted in the one cycle it is due, the outputs are its result from there on, and
before they are what they were. -/
theorem steps_of_lone_request (hb : ClockedBare s) (hq : s.req = false) (hrsp : s.rsp = false)
    (hf : s.inFlight = [⟨s.request, l + 1, true⟩]) (k : Nat) :
    ∃ t, steps k s = .next t ∧ (t.rsp = true ↔ k = l + 1) ∧
      t.out = if k < l + 1 then s.out else .result (resultOf s.params.rPolicy (decode s.request)) := by
  have hnone : s.strobed = [] := by rw [State.strobed, if_neg (by simp [hq])]
  have hd : OldestDueIn s (l + 1) [] := by rw [OldestDueIn, hf, hnone, List.append_nil]
  obtain hk | hk := Nat.lt_or_ge k (l + 1)
  · obtain ⟨j, rfl⟩ : ∃ j, l = k + j := ⟨l - k, by omega⟩
    obtain ⟨gs, hs, hsteps, -, -⟩ := steps_before_response k hb hd
    refine ⟨_, hsteps, ?_, ?_⟩
    · rw [State.setPipe_rsp, hrsp, Bool.and_false]
      exact iff_of_false Bool.false_ne_true (by omega)
    · rw [State.setPipe_out, if_pos hk]
  · obtain ⟨j, rfl⟩ : ∃ j, k = l + 1 + j := ⟨k - (l + 1), by omega⟩
    obtain ⟨gs, hsteps, hlone⟩ := steps_response hb hd
    cases hlone hnone rfl
    have hidle := steps_idle j (clockedBare_setOut (clockedBare_setPipe hb true [])
      (.result (resultOf s.params.rPolicy (decode s.request)))) hq rfl
    refine ⟨_, (steps_add_of_steps j hsteps).trans hidle, ?_, ?_⟩
    · simp
    · rw [State.setPipe_out, State.setOut_out, if_neg (by omega)]

end Bare

/-- Settles O23: the request counts down to its response while REQ stays asserted, and alone where REQ lasts one cycle. -/
theorem responseAfterLatency : Obligations.ResponseAfterLatency := by
  intro s hbare hl hr hq he
  have hb : ClockedBare s := ⟨hbare, hl, hr⟩
  have hd := oldestDueIn_of_strobe hq he
  obtain ⟨L, hL⟩ := Nat.exists_eq_succ_of_ne_zero hl
  rw [hL] at hd ⊢
  refine ⟨⟨fun k hk hkl => ?_, ?_⟩, ?_⟩
  · obtain ⟨j, rfl⟩ : ∃ j, L = k + j := ⟨L - k, by omega⟩
    obtain ⟨gs, -, hsteps, -, -⟩ := steps_before_response k hb hd
    refine ⟨_, hsteps, ?_, rfl⟩
    rw [State.setPipe_rsp, decide_eq_false (by omega), Bool.false_and]
  · obtain ⟨gs, hsteps, -⟩ := steps_response hb hd
    exact ⟨_, hsteps, rfl, rfl⟩
  · cases L with
    | zero =>
      have hstep := (step_of_clockedBare hb).trans (clockEdge_of_oldestDueIn_one hr hd)
      refine ⟨_, hstep, fun k => ?_⟩
      have hb' := clockedBare_setReq (clockedBare_setOut (clockedBare_setPipe hb true [])
        (.result (resultOf s.params.rPolicy (decode s.request)))) false
      exact ⟨_, steps_idle k hb' rfl rfl, by simp, by simp⟩
    | succ L =>
      have hstep := (step_of_clockedBare hb).trans (clockEdge_of_oldestDueIn hr hd)
      refine ⟨_, hstep, fun k => ?_⟩
      have hb' := clockedBare_setReq (clockedBare_setPipe hb false [⟨s.request, L + 1, true⟩]) false
      obtain ⟨t, hsteps, hrsp, hout⟩ := steps_of_lone_request hb' rfl rfl rfl k
      exact ⟨t, hsteps, hrsp.trans (by omega), hout.trans (by simp)⟩

/-! ## A request placed by the requester (log 19) -/

theorem decode_of_decodeTableWord {nbits w : Nat} {i : Instr} (h : decodeTableWord nbits w = some i) :
    decode (BitVec.ofNat 97 w) = i := by
  unfold decodeTableWord decodeBits at h
  split_ifs at h
  simpa using h

theorem bareRequest_placeRequest (s : State) (w : Request) : BareRequest (s.placeRequest w) := by
  unfold State.placeRequest
  split <;> exact ⟨rfl, rfl⟩

theorem request_placeRequest (s : State) (w : Request) : (s.placeRequest w).request = w := by
  unfold State.placeRequest
  split <;> exact Request.make_fields w

theorem params_placeRequest (s : State) (w : Request) : (s.placeRequest w).params = s.params := by
  unfold State.placeRequest
  split <;> rfl

theorem device_placeRequest (s : State) (w : Request) : (s.placeRequest w).device = s.device := by
  unfold State.placeRequest
  split <;> rfl

/-- With `LATENCY` 0 a bare request is evaluated in one step (R140, R148). -/
theorem step_of_bareRequest_zero {s : State} (h : BareRequest s) (hl : s.params.latency = 0) :
    step s = exec (decode s.request) s := by
  rw [step_of_bareRequest h, blockStep_zero s hl]

/-- Settles O20: a bare request is evaluated by the block's turn, and the word placed is the request on the ports. -/
theorem stepRunsRequest : Obligations.StepRunsRequest := by
  refine ⟨fun s => step_of_bareRequest_zero, fun s nbits w i hl hi => ?_⟩
  have hl' : (s.placeRequest (BitVec.ofNat 97 w)).params.latency = 0 := by rwa [params_placeRequest]
  rw [State.withFetchWord, step_of_bareRequest_zero (bareRequest_placeRequest s _) hl', request_placeRequest,
    decode_of_decodeTableWord hi]

/-- With `LATENCY` > 0 the word placed is due in the next cycle, with RST low. -/
theorem placeRequest_due {s : State} (hl : s.params.latency ≠ 0) (w : Request) :
    ClockedBare (s.placeRequest w) ∧ OldestDueIn (s.placeRequest w) 1 [] := by
  refine ⟨⟨bareRequest_placeRequest s w, by rwa [params_placeRequest], ?_⟩, ?_⟩
  · simp [State.placeRequest, hl]
  · rw [OldestDueIn, request_placeRequest]
    simp [State.placeRequest, hl, State.strobed]

/-- Settles O21: the one request in flight is due, and answered by its result. -/
theorem stepAnswersPlacedRequest : Obligations.StepAnswersPlacedRequest := by
  intro s nbits w i hl hi
  obtain ⟨hb, hd⟩ := placeRequest_due hl (BitVec.ofNat 97 w)
  refine ⟨_, (step_of_clockedBare hb).trans (clockEdge_of_oldestDueIn_one hb.noReset hd), rfl, ?_, ?_⟩
  · rw [exec_eq, State.setOut_out, params_placeRequest, request_placeRequest, decode_of_decodeTableWord hi]
  · rw [State.setOut_device, State.setPipe_device, device_placeRequest]

end Sys2Proof
end

section
/-! A setup call from its first cycle to the end of its burst, at any `LATENCY` (R44, R68, R140, R141). -/

namespace Sys2Proof

open Sys2Proof.Machine

/-! ## The request of a setup call -/

/-- The request the consumer awaits is answered in at most `LATENCY` cycles: at once with `LATENCY` 0, and otherwise it is
strobed into an empty pipeline with RST low. -/
def Answerable (s : State) : Prop :=
  s.params.latency = 0 ∨ s.rst = false ∧ s.inFlight = [] ∧ s.req = true

/-- The state in which the consumer finds the result of the request it has held on the ports. -/
def Machine.State.answered (s : State) (b : Bool) (fs : List Flight) : State :=
  ((s.setPipe b fs).setOut (.result (resultOf s.params.rPolicy (decode s.request)))).setReq false

section Awaiting

variable {s : State} {g : Target}

theorem step_of_awaiting (h : s.consumer = .awaiting g) : step s = serve s := by
  rw [step_eq, h]

theorem serve_of_blockStep {t : State} (h : blockStep s = .next t) : serve s = takeResponse (t.setReq false) := by
  rw [serve, h, andThen]

/-- While its response is not there, the consumer's turn leaves everything. -/
theorem takeResponse_of_not_responded (hr : s.responded = false) : takeResponse s = .next s := by
  unfold takeResponse
  split
  · rw [if_neg (by simp [hr])]
  · rfl

/-- An `Ok` result goes on to the burst (R68). -/
theorem takeResponse_ok {B : Block} (hc : s.consumer = .awaiting g) (hr : s.responded = true)
    (ho : s.out = .result (.ok B)) : takeResponse s = .next (s.setConsumer (.bursting g)) := by
  rw [takeResponse, hc]
  simp only [if_pos hr, ho, Output.read]

/-- The consumer's lone request counts down to its response, and in that cycle the consumer takes it (R141). -/
theorem steps_of_awaiting_lone (l : Nat) : ∀ {s : State}, s.params.latency ≠ 0 →
    s.consumer = .awaiting g → s.rst = false → OldestDueIn s (l + 1) [] →
    steps (l + 1) s = takeResponse (s.answered true []) := by
  induction l with
  | zero =>
    intro s hl hc hr hd
    rw [Nat.zero_add, steps_one, step_of_awaiting hc]
    exact serve_of_blockStep ((blockStep_pos s hl).trans (clockEdge_of_oldestDueIn_one hr hd))
  | succ l ih =>
    intro s hl hc hr hd
    have hblock := (blockStep_pos s hl).trans (clockEdge_of_oldestDueIn hr hd)
    have hstep := (step_of_awaiting hc).trans ((serve_of_blockStep hblock).trans
      (takeResponse_of_not_responded (by simp [State.responded, hl])))
    have hdue : OldestDueIn ((s.setPipe false [⟨s.request, l + 1, true⟩]).setReq false) (l + 1) [] := rfl
    rw [steps_succ_of_step hstep]
    exact ih hl hc hr hdue

/-- After the cycles of the request the consumer takes its response, at any `LATENCY` (R140, R141). -/
theorem steps_of_answerable (hc : s.consumer = .awaiting g) (ha : Answerable s) :
    ∃ b fs, (s.answered b fs).responded = true ∧
      steps (max 1 s.params.latency) s = takeResponse (s.answered b fs) := by
  by_cases hl : s.params.latency = 0
  · refine ⟨s.rsp, s.inFlight, by simp [State.answered, State.responded, hl], ?_⟩
    rw [hl, Nat.max_zero, steps_one, step_of_awaiting hc]
    exact serve_of_blockStep ((blockStep_zero s hl).trans (exec_eq s _))
  · obtain ⟨hr, he, hq⟩ := ha.resolve_left hl
    have hd := oldestDueIn_of_strobe hq he
    obtain ⟨l, hL⟩ := Nat.exists_eq_succ_of_ne_zero hl
    rw [hL] at hd
    refine ⟨true, [], by simp [State.answered, State.responded], ?_⟩
    rw [Nat.max_eq_right (by omega), hL]
    exact steps_of_awaiting_lone l hl hc hr hd

end Awaiting

theorem answerable_present {s : State} (h : s.params.latency = 0 ∨ s.rst = false ∧ s.inFlight = []) (g : Target)
    (w : Request) : Answerable (s.present g w) := by
  by_cases hl : s.params.latency = 0
  · exact .inl hl
  · obtain ⟨hr, he⟩ := h.resolve_left hl
    exact .inr ⟨hr, he, by simp [hl]⟩

/-- A call that presents a request runs as if the consumer had awaited its response already. -/
theorem steps_of_request_call {s : State} {c : Call} {cs : List Call} {g : Target} {w : Request} (hc : s.consumer = .ready)
    (hp : s.program = c :: cs) (hcall : beginCall c (s.setProgram cs) = serve ((s.setProgram cs).present g w)) (k : Nat) :
    steps (k + 1) s = steps (k + 1) ((s.setProgram cs).present g w) := by
  have hready : readyStep s = beginCall c (s.setProgram cs) := by rw [readyStep, hp]
  rw [steps, steps, step_of_ready hc, hready, hcall, step_of_awaiting (State.present_consumer ..)]

theorem decode_make_zero (a b c : Word) : decode (Request.make 0 a b c) = .encPll a.toNat b.toNat c.toNat := by
  obtain ⟨ho, hx, hy, hz⟩ := Laws.RoundTrip.fields_make 0 a b c
  rw [decode, if_pos ho, hx, hy, hz, zext32, zext32, zext32]

theorem decode_make_one (divider r z : Word) :
    decode (Request.make 1 divider r z) = .encMs divider.toNat r.toNat z.toNat := by
  obtain ⟨ho, hx, hy, hz⟩ := Laws.RoundTrip.fields_make 1 divider r z
  rw [decode, if_neg (by rw [ho]; decide), hx, hy, hz, zext32, zext32, zext32]

/-! ## The burst of its result -/

section Burst

variable {s : State} {g : Target} {B : Block} {rs : List BusReport}

/-- A burst the transport reports as successful writes its block and ends its call (R44). -/
theorem step_of_successful_burst (hc : s.consumer = .bursting g) (hop : s.op = targetOp g)
    (ho : s.out = .result (.ok B)) (ht : s.transport = .success :: rs) :
    step s = .next (((s.setDevice (burstWrite g B .success s.device)).setTransport rs).finish .done) := by
  rw [step_eq, hc]
  simp only [burstStep, if_pos hop, readBlock_of_out_ok ho, ht]
  rfl

theorem toNat_blockBase_ms (pin : Pin) : (blockBase (.ms pin)).toNat = 42 + 8 * pin.val := by
  revert pin
  decide

theorem toNat_blockRegister (g : Target) (k : Fin 8) : (blockRegister g k).toNat = (blockBase g).toNat + k.val := by
  have hbase : (blockBase g).toNat ≤ 58 := by
    rcases g with (_ | _) | pin
    · decide
    · decide
    · rw [toNat_blockBase_ms]; omega
  rw [blockRegister, BitVec.toNat_add, BitVec.toNat_ofNat]
  omega

/-- The block's registers hold the eight lanes after a successful burst, base first (R42, R44). -/
theorem read_burstWrite_success (m : Memory) (k : Fin 8) :
    (burstWrite g B .success m).read (BitVec.ofNat 8 ((blockBase g).toNat + k.val)) = some (B.lane k) := by
  rw [← toNat_blockRegister, BitVec.ofNat_toNat, BitVec.setWidth_eq, burstWrite_read_lane]
  rfl

/-- No register below or above the block is written (R44, R46). -/
theorem read_burstWrite_outside (r : BusReport) (m : Memory) {x : Byte}
    (hx : x.toNat < (blockBase g).toNat ∨ (blockBase g).toNat + 7 < x.toNat) :
    (burstWrite g B r m).read x = m.read x := by
  refine burstWrite_read_other g B r m fun k hk => ?_
  rw [hk, toNat_blockRegister] at hx
  omega

end Burst

/-! ## The whole call -/

/-- A call whose request is answered by `Ok`, with a transport that reports success, ends with its block in the device,
after the cycles of the request and one step for the burst (R68). -/
theorem steps_of_accepted_call {s : State} {c : Call} {cs : List Call} {rs : List BusReport} {g : Target} {w : Request}
    {B : Block} (hc : s.consumer = .ready) (hl : s.params.latency = 0 ∨ s.rst = false ∧ s.inFlight = [])
    (hp : s.program = c :: cs) (ht : s.transport = .success :: rs)
    (hcall : beginCall c (s.setProgram cs) = serve ((s.setProgram cs).present g w)) (hop : w.op = targetOp g)
    (hres : resultOf s.params.rPolicy (decode w) = .ok B) :
    ∃ t, steps (max 1 s.params.latency + 1) s = .next t ∧ CallDone s t cs rs ∧
      (∀ k : Fin 8, t.device.read (BitVec.ofNat 8 ((blockBase g).toNat + k.val)) = some (B.lane k)) ∧
      ∀ x : Byte, x.toNat < (blockBase g).toNat ∨ (blockBase g).toNat + 7 < x.toNat →
        t.device.read x = s.device.read x := by
  have hl' : (s.setProgram cs).params.latency = 0 ∨ (s.setProgram cs).rst = false ∧ (s.setProgram cs).inFlight = [] := hl
  obtain ⟨b, fs, hr, hsteps⟩ := steps_of_answerable (State.present_consumer (s.setProgram cs) g w)
    (answerable_present hl' g w)
  have hout : (((s.setProgram cs).present g w).answered b fs).out = .result (.ok B) := by
    simp [State.answered, hres]
  rw [takeResponse_ok (g := g) rfl hr hout] at hsteps
  have hburst := step_of_successful_burst (s := (((s.setProgram cs).present g w).answered b fs).setConsumer (.bursting g))
    rfl hop hout ht
  have hcalled := (steps_of_request_call hc hp hcall _).trans
    ((steps_add_of_steps 1 hsteps).trans ((steps_one _).trans hburst))
  exact ⟨_, hcalled, ⟨rfl, rfl, rfl, rfl⟩, read_burstWrite_success s.device,
    fun x hx => read_burstWrite_outside .success s.device hx⟩

/-- Settles O28: the call is accepted, and its lanes hold the three fields. -/
theorem setupPllWritesBlock : Obligations.SetupPllWritesBlock := by
  intro s pll a b c cs rs p1 p2 base hc hl hp ht hb hc20 ha ha' h1 h2 hbase
  obtain ⟨B, hB, hlanes⟩ := encodePll_accepted hb hc20 ha ha' h1 h2
  obtain ⟨t, hsteps, hdone, hread, hother⟩ :=
    steps_of_accepted_call hc hl hp ht (g := .pll pll) (w := Request.make 0 a b c) rfl
    (Laws.RoundTrip.fields_make 0 a b c).1 (by rw [decode_make_zero, resultOf, hB])
  have hbase' : base = (blockBase (.pll pll)).toNat := by
    rw [hbase]
    cases pll <;> rfl
  rw [← hbase'] at hread hother
  refine ⟨t, hsteps, hdone, ⟨_, _, _, _, _, _, _, _, hread 0, hread 1, hread 2, hread 3, hread 4, hread 5, hread 6,
    hread 7, ?_⟩, hother⟩
  have hf : 128 * b.toNat / c.toNat < 128 := pllF_lt hb
  have hm : 128 * b.toNat % c.toNat < c.toNat := Nat.mod_lt _ (by omega)
  simp only [Block.lanes, laneOrder, pllLanes, List.map, List.cons.injEq, and_true] at hlanes
  omega

/-- Settles O29: the call is accepted, and its lanes are the eight bytes. -/
theorem setupMsWritesBlock : Obligations.SetupMsWritesBlock := by
  intro s pin divider r n p1 base cs rs hc hl hp ht hd hd' hr hr' hn hpol h1 hbase
  obtain ⟨B, hB, hlanes⟩ := encodeMs_accepted hd hd' h1 hr hr' hn hpol
  obtain ⟨t, hsteps, hdone, hread, hother⟩ :=
    steps_of_accepted_call hc hl hp ht (g := .ms pin) (w := Request.make 1 divider r 0) rfl
    (Laws.RoundTrip.fields_make 1 divider r 0).1 (by rw [decode_make_one, resultOf, hB])
  rw [toNat_blockBase_ms, ← hbase] at hread hother
  refine ⟨t, hsteps, hdone, fun k v hv => ?_, hother⟩
  have hlane : (B.lane k).toNat = v := by
    rw [msLanes] at hlanes
    rwa [← hlanes, lanes_getElem?, Option.some.injEq] at hv
  rw [hread, ← hlane, BitVec.ofNat_toNat, BitVec.setWidth_eq]

end Sys2Proof
end

section
/-! The consumer stays sound (R43, R144): the request it awaits is the last in the pipeline and held, from its REQ to its
RSP. -/

namespace Sys2Proof

open Sys2Proof.Machine

/-! ## The last request in the pipeline -/

/-- The last of these requests in flight, if there is one, carries the word `w` and has been held (R144). -/
def LastIsHeld (w : Request) (fs : List Flight) : Prop :=
  ∀ f, fs.getLast? = some f → f.request = w ∧ f.held = true

section LastIsHeld

variable {s t : State} {w : Request} {fs gs : List Flight}

/-- A cycle in which the ports still carry the word leaves it held. -/
theorem lastIsHeld_advance (h : LastIsHeld w fs) : LastIsHeld w (fs.map (Flight.advance w)) := by
  intro f hf
  rw [List.getLast?_map, Option.map_eq_some_iff] at hf
  obtain ⟨g, hg, rfl⟩ := hf
  obtain ⟨hw, hh⟩ := h g hg
  simp [Flight.advance, hw, hh]

/-- Responses leave the pipeline at its front (R141). -/
theorem lastIsHeld_suffix (h : LastIsHeld w fs) (hs : gs <:+ fs) : LastIsHeld w gs := by
  intro f hf
  obtain ⟨es, rfl⟩ := hs
  exact h f (List.mem_getLast?_append_of_mem_getLast? hf)

/-- A request strobed in this cycle is the one on the ports (R141). -/
theorem lastIsHeld_strobed (h : s.req = false → LastIsHeld s.request s.inFlight) :
    LastIsHeld s.request (s.inFlight ++ s.strobed) := by
  cases hq : s.req with
  | false => simpa [State.strobed, hq] using h hq
  | true =>
    intro f hf
    simp only [State.strobed, hq, if_pos, List.getLast?_concat, Option.some.injEq] at hf
    subst hf
    exact ⟨rfl, rfl⟩

/-- One cycle of CLK leaves in the pipeline an end of what it held, one cycle on: responses leave at the front (R141), and
RST empties it. -/
theorem clockEdge_inFlight_suffix (h : clockEdge s = .next t) : t.inFlight <:+ s.advance := by
  by_cases hr : s.rst = true
  · cases (clockEdge_reset s hr).symm.trans h
    exact List.nil_suffix
  rw [Bool.not_eq_true] at hr
  rcases ha : s.advance with _ | ⟨f, fs⟩
  · cases (clockEdge_empty s hr ha).symm.trans h
    exact List.nil_suffix
  by_cases hl : f.left = 0
  · cases hh : f.held with
    | true =>
      cases (clockEdge_due s hr ha hl hh).symm.trans h
      exact List.suffix_cons f fs
    | false =>
      cases (clockEdge_moved s hr ha hl hh).symm.trans h
      exact List.suffix_cons f fs
  · cases (clockEdge_wait s hr ha hl).symm.trans h
    exact List.suffix_refl _

theorem clockEdge_keeps_lastIsHeld (hs : LastIsHeld s.request (s.inFlight ++ s.strobed)) (h : clockEdge s = .next t) :
    LastIsHeld s.request t.inFlight :=
  lastIsHeld_suffix (lastIsHeld_advance hs) (clockEdge_inFlight_suffix h)

end LastIsHeld

/-! ## Each turn -/

section ConsumerSound

variable {s t : State} {g : Target}

theorem consumerSound_of_ready (h : s.consumer = .ready) : ConsumerSound s := by
  unfold ConsumerSound
  rw [h]
  trivial

theorem consumerSound_awaiting_iff (h : s.consumer = .awaiting g) :
    ConsumerSound s ↔ s.op = targetOp g ∧ LastIsHeld s.request s.inFlight := by
  unfold ConsumerSound
  rw [h]
  rfl

/-- An `Err` result ends the program with its code (R68, R127). -/
theorem takeResponse_err {e : ErrCode} (hc : s.consumer = .awaiting g) (hr : s.responded = true)
    (ho : s.out = .result (.err e)) : takeResponse s = .next ((s.setProgram []).finish (.rangeError e)) := by
  rw [takeResponse, hc]
  simp only [if_pos hr, ho, Output.read]

/-- A response without a value faults (R144). -/
theorem takeResponse_noValue (hc : s.consumer = .awaiting g) (hr : s.responded = true) (ho : s.out = .noValue) :
    takeResponse s = .fault .outputHasNoValue := by
  rw [takeResponse, hc]
  simp only [if_pos hr, ho, Output.read]

/-- Taking a response the consumer goes on to a burst of its target's kind, or is ready; where it goes on awaiting, its
response is not there. -/
theorem takeResponse_consumerSound (hc : s.consumer = .awaiting g) (hop : s.op = targetOp g)
    (hwait : s.responded = false → ConsumerSound s) (h : takeResponse s = .next t) : ConsumerSound t := by
  cases hr : s.responded with
  | false =>
    cases (takeResponse_of_not_responded hr).symm.trans h
    exact hwait hr
  | true =>
    cases ho : s.out with
    | noValue => cases (takeResponse_noValue hc hr ho).symm.trans h
    | result r =>
      cases r with
      | ok B =>
        cases (takeResponse_ok hc hr ho).symm.trans h
        exact ⟨hop, B, ho⟩
      | err e =>
        cases (takeResponse_err hc hr ho).symm.trans h
        exact trivial

/-- The consumer's request is answered, or is on its way as the last in the pipeline, held (R144). With `LATENCY` 0 the
pipeline has no part in it (R140). -/
theorem serve_consumerSound (hc : s.consumer = .awaiting g) (hop : s.op = targetOp g)
    (hlast : s.params.latency ≠ 0 → LastIsHeld s.request (s.inFlight ++ s.strobed)) (h : serve s = .next t) :
    ConsumerSound t := by
  obtain ⟨b, fs, o, hb, ht⟩ := serve_cases s h
  have hc' : (((s.setPipe b fs).setOut o).setReq false).consumer = .awaiting g := hc
  refine takeResponse_consumerSound hc' hop (fun hr => ?_) ht
  have hl : s.params.latency ≠ 0 := by
    intro hl
    simp [State.responded, hl] at hr
  rw [blockStep_pos s hl] at hb
  have hheld := clockEdge_keeps_lastIsHeld (hlast hl) hb
  exact (consumerSound_awaiting_iff hc').2 ⟨hop, hheld⟩

theorem awaiting_keeps_consumerSound (hc : s.consumer = .awaiting g) (hs : ConsumerSound s) (h : serve s = .next t) :
    ConsumerSound t := by
  obtain ⟨hop, hlast⟩ := (consumerSound_awaiting_iff hc).1 hs
  exact serve_consumerSound hc hop (fun _ => lastIsHeld_strobed fun _ => hlast) h

/-- A setup call presents a request of its target's kind and, with `LATENCY` > 0, strobes it. -/
theorem beginCall_consumerSound {c : Call} (h : beginCall c s = .next t) : ConsumerSound t := by
  obtain ⟨g, w, hop, hserve⟩ | ⟨_, rfl⟩ | ⟨_, rfl⟩ := beginCall_cases s h
  · refine serve_consumerSound (s.present_consumer g w) hop (fun hl => lastIsHeld_strobed fun hq => ?_) hserve
    rw [State.present_req, decide_eq_false_iff_not] at hq
    exact absurd hl hq
  · exact trivial
  · exact trivial

theorem readyStep_consumerSound (hc : s.consumer = .ready) (h : readyStep s = .next t) : ConsumerSound t := by
  unfold readyStep at h
  split at h
  · obtain ⟨b, fs, o, hb⟩ := blockStep_form s
    cases hb.symm.trans h
    exact consumerSound_of_ready hc
  · exact beginCall_consumerSound h

theorem burstStep_keeps_consumerSound (hs : ConsumerSound s) (h : burstStep g s = .next t) : ConsumerSound t := by
  obtain ⟨_, _, _, ⟨_, rfl⟩ | ⟨_, _, _, rfl⟩⟩ := burstStep_cases s h
  · exact hs
  · exact trivial

theorem readStep_keeps_consumerSound {m : Rmw} (hs : ConsumerSound s) (h : readStep m s = .next t) :
    ConsumerSound t := by
  obtain ⟨_, hr⟩ | ⟨_, _, hr⟩ | ⟨_, _, _, hr⟩ := readStep_cases s m <;> cases hr.symm.trans h
  · exact hs
  · exact trivial
  · exact trivial

theorem writeStep_keeps_consumerSound {ws : List (Byte × Byte)} (hs : ConsumerSound s) (h : writeStep ws s = .next t) :
    ConsumerSound t := by
  obtain ⟨_, hw⟩ | ⟨_, hw⟩ | ⟨_, _, _, _, _, hw⟩ | ⟨_, _, _, _, _, _, hw⟩ := writeStep_cases s ws <;>
    cases hw.symm.trans h
  · exact trivial
  · exact hs
  · exact trivial
  · exact trivial

end ConsumerSound

/-- Settles O46: the request a call presents enters the pipeline last and stays held there until its response, and
every other turn leaves the consumer as it is or with nothing awaited and nothing to burst. -/
theorem stepKeepsConsumerSound : Obligations.StepKeepsConsumerSound := by
  intro s t hs h
  rw [step_eq] at h
  cases hc : s.consumer with rw [hc] at h
  | ready => exact readyStep_consumerSound hc h
  | awaiting _ => exact awaiting_keeps_consumerSound hc hs h
  | bursting _ => exact burstStep_keeps_consumerSound hs h
  | reading _ => exact readStep_keeps_consumerSound hs h
  | writing _ => exact writeStep_keeps_consumerSound hs h

end Sys2Proof
end

section
/-! What a turn can do to the device's registers and to what its PLLs started from, said once for every agent, and what
follows from it for every step (R40, R44, R47, R50, R146). -/

namespace Sys2Proof

open Sys2Proof.Machine

/-- No register of the device changes, and no PLL starts. -/
def DeviceKept (s t : State) : Prop := t.device = s.device ∧ ∀ p, t.start p = s.start p

/-- The write of one register, with the resets it pulses, is all that happens to the device (R50, R146). -/
def DeviceWritten (s t : State) (w : Byte × Byte) (r : BusReport) : Prop :=
  t.device = busWrite w r s.device ∧ ∀ p, t.start p = s.startAfter w r p

/-- The burst of a block is all that happens to the device (R44). -/
def DeviceBurst (s t : State) (g : Target) (B : Block) (r : BusReport) : Prop :=
  t.device = burstWrite g B r s.device ∧ ∀ p, t.start p = s.start p

/-! ## Each turn -/

section Device

variable {s t : State}

theorem deviceKept_refl (s : State) : DeviceKept s s := ⟨rfl, fun _ => rfl⟩

/-- The block's turn reaches no device (R47). -/
theorem blockStep_deviceKept (h : blockStep s = .next t) : DeviceKept s t := by
  obtain ⟨b, fs, o, hb⟩ := blockStep_form s
  cases hb.symm.trans h
  exact ⟨by simp, by simp⟩

theorem takeResponse_deviceKept (h : takeResponse s = .next t) : DeviceKept s t := by
  obtain rfl | ⟨_, _, _, _, _, rfl⟩ | ⟨_, _, _, _, _, rfl⟩ := takeResponse_cases s h
  · exact deviceKept_refl t
  · exact ⟨by simp, by simp⟩
  · exact ⟨by simp, by simp⟩

theorem serve_deviceKept (h : serve s = .next t) : DeviceKept s t := by
  obtain ⟨b, fs, o, -, ht⟩ := serve_cases s h
  simpa [DeviceKept] using takeResponse_deviceKept ht

theorem beginCall_deviceKept {c : Call} (h : beginCall c s = .next t) : DeviceKept s t := by
  obtain ⟨_, _, _, hs⟩ | ⟨_, rfl⟩ | ⟨_, rfl⟩ := beginCall_cases s h
  · simpa [DeviceKept] using serve_deviceKept hs
  · exact ⟨by simp, by simp⟩
  · exact ⟨by simp, by simp⟩

theorem readyStep_deviceKept (h : readyStep s = .next t) : DeviceKept s t := by
  unfold readyStep at h
  split at h
  · exact blockStep_deviceKept h
  · simpa [DeviceKept] using beginCall_deviceKept h

/-- A read-modify-write's read leaves the device; its write is an access of its own (R147). -/
theorem readStep_deviceKept {m : Rmw} (h : readStep m s = .next t) : DeviceKept s t := by
  obtain ⟨_, hr⟩ | ⟨_, _, hr⟩ | ⟨_, _, _, hr⟩ := readStep_cases s m <;> cases hr.symm.trans h
  · exact deviceKept_refl s
  · exact ⟨by simp, by simp⟩
  · exact ⟨by simp, by simp⟩

/-- A burst waits for its report, or writes its block as reported (R44, R48). -/
theorem burstStep_device {g : Target} (h : burstStep g s = .next t) :
    DeviceKept s t ∨ ∃ B r, DeviceBurst s t g B r := by
  obtain ⟨_, B, _, ⟨_, rfl⟩ | ⟨r, _, _, rfl⟩⟩ := burstStep_cases s h
  · exact .inl (deviceKept_refl t)
  · exact .inr ⟨B, r, by simp, by simp⟩

/-- A sequence of writes is over or waits for its report, or its first register is written as reported (R48, R143). -/
theorem writeStep_device {ws : List (Byte × Byte)} (h : writeStep ws s = .next t) :
    DeviceKept s t ∨ ∃ w ws' r, ws = w :: ws' ∧ DeviceWritten s t w r := by
  obtain ⟨_, hw⟩ | ⟨_, hw⟩ | ⟨w, ws', _, rfl, _, hw⟩ | ⟨w, ws', l, _, rfl, _, hw⟩ := writeStep_cases s ws <;>
    cases hw.symm.trans h
  · exact .inl ⟨by simp, by simp⟩
  · exact .inl (deviceKept_refl s)
  · exact .inr ⟨w, ws', .success, rfl, by simp, by simp⟩
  · exact .inr ⟨w, ws', .failed l, rfl, by simp, by simp⟩

/-- What a step can do to the device: nothing, or the burst of the consumer's block, or the write of the consumer's next
register (R44, R47, R50). -/
theorem step_device (h : step s = .next t) :
    DeviceKept s t ∨
    (∃ g B r, s.consumer = .bursting g ∧ DeviceBurst s t g B r) ∨
    (∃ w ws r, s.consumer = .writing (w :: ws) ∧ DeviceWritten s t w r) := by
  rw [step_eq] at h
  cases hc : s.consumer with rw [hc] at h
  | ready => exact .inl (readyStep_deviceKept h)
  | awaiting _ => exact .inl (serve_deviceKept h)
  | bursting g =>
    obtain hk | ⟨B, r, hb⟩ := burstStep_device h
    · exact .inl hk
    · exact .inr (.inl ⟨g, B, r, rfl, hb⟩)
  | reading _ => exact .inl (readStep_deviceKept h)
  | writing _ =>
    obtain hk | ⟨w, ws, r, rfl, hw⟩ := writeStep_device h
    · exact .inl hk
    · exact .inr (.inr ⟨w, ws, r, rfl, hw⟩)

end Device

/-! ## Every step -/

/-- Settles O47: a burst and a write of one register keep the canonical form, and nothing else reaches the device. -/
theorem stepKeepsDeviceWf : Obligations.StepKeepsDeviceWf := by
  intro s t hs h
  obtain ⟨hd, -⟩ | ⟨g, B, r, -, hd, -⟩ | ⟨w, _, r, -, hd, -⟩ := step_device h <;> unfold DeviceWf <;> rw [hd]
  · exact hs
  · exact burstWrite_wf hs g B r
  · exact busWrite_wf hs w r

/-- Settles O50: a burst leaves the registers outside its block alone, and a write every register but its own. -/
theorem onlyTheConsumerWrites : Obligations.OnlyTheConsumerWrites := by
  intro s t x h hx
  obtain ⟨hd, -⟩ | ⟨g, B, r, hc, hd, -⟩ | ⟨w, ws, r, hc, hd, -⟩ := step_device h <;> rw [hd] at hx
  · exact absurd rfl hx
  · by_contra! hno
    exact hx (burstWrite_read_other g B r s.device fun k => hno.1 g k hc)
  · by_contra! hno
    exact hx (busWrite_read_other w r s.device (hno.2 w ws hc))

/-- The bit of register 177 that resets a PLL (R50). -/
def resetBitIndex : Pll → Nat
  | .a => 7
  | .b => 5

theorem resetBit_eq_twoPow (p : Pll) : resetBit p = BitVec.twoPow 8 (resetBitIndex p) := by
  cases p <;> decide

theorem getLsbD_of_and_resetBit {v : Byte} {p : Pll} (h : v &&& resetBit p ≠ 0) : v.getLsbD (resetBitIndex p) = true := by
  rw [resetBit_eq_twoPow, BitVec.and_twoPow] at h
  by_contra hn
  exact h (if_neg hn)

/-- Settles O40: a start changes only with a write of register 177 that has the PLL's bit. -/
theorem onlyResetStartsPll : Obligations.OnlyResetStartsPll := by
  intro s t p h hp
  obtain ⟨-, hst⟩ | ⟨_, _, _, -, -, hst⟩ | ⟨w, ws, r, hc, -, hst⟩ := step_device h <;> rw [hst] at hp ⊢
  · exact absurd rfl hp
  · exact absurd rfl hp
  · obtain ⟨-, hw, hb, hstart⟩ | ⟨-, hstart⟩ := startAfter_cases s w r p
    · have hbit := getLsbD_of_and_resetBit hb
      refine ⟨hstart, w, ws, hc, hw, ?_⟩
      cases p <;> exact hbit
    · exact absurd hstart hp

end Sys2Proof
end

section
/-! The register map of the five parameter blocks, and the consumer's turn over the transport (R41 to R52): a burst as it is
reported, and every access that has no report yet. -/

namespace Sys2Proof

open Sys2Proof.Machine

/-! ## The map of the parameter blocks (R41, R42) -/

theorem purposeOf_blockRegister (g : Target) (k : Fin 8) : purposeOf (blockRegister g k) = .parameterBlock g := by
  rcases g with (_ | _) | pin
  · revert k; decide
  · revert k; decide
  · revert pin k; decide

/-- The registers the map names for a block are the eight from its base on. -/
theorem bounds_of_purposeOf {a : Byte} {g : Target} (h : purposeOf a = .parameterBlock g) :
    (blockBase g).toNat ≤ a.toNat ∧ a.toNat ≤ (blockBase g).toNat + 7 := by
  simp only [purposeOf, ite_eq_iff, reduceCtorEq, and_false, false_or, or_false, Purpose.parameterBlock.injEq] at h
  obtain ⟨-, -, -, -, ⟨hpllA, rfl⟩ | ⟨-, ⟨hpllB, rfl⟩ | ⟨-, ⟨hms0, rfl⟩ | ⟨-, ⟨hms1, rfl⟩ | ⟨-, hms2, rfl⟩⟩⟩⟩⟩ := h
  · exact hpllA
  · exact hpllB
  · exact hms0
  · exact hms1
  · exact hms2

/-- Settles O30: lane k's register is base + k, and the map names those eight for the block. -/
theorem registerMapOfBursts : Obligations.RegisterMapOfBursts := by
  refine ⟨purposeOf_blockRegister, fun a g h => ?_⟩
  obtain ⟨hlo, hhi⟩ := bounds_of_purposeOf h
  obtain ⟨k, hk⟩ : ∃ k : Fin 8, a.toNat = (blockBase g).toNat + k.val :=
    ⟨⟨a.toNat - (blockBase g).toNat, by omega⟩, by simp only; omega⟩
  have ha : a = blockRegister g k := BitVec.eq_of_toNat_eq (hk.trans (toNat_blockRegister g k).symm)
  exact ⟨k, ha, hk, fun k' hk' => (blockRegister_inj (ha.symm.trans hk')).2.symm⟩

/-! ## One burst -/

section Burst

variable {s : State} {g : Target} {B : Block}

/-- A burst the transport has reported on writes its block as reported, and ends its call (R44, R48, R128). -/
theorem step_of_reported_burst {r : BusReport} {rs : List BusReport} (hc : s.consumer = .bursting g)
    (hop : s.op = targetOp g) (ho : s.out = .result (.ok B)) (ht : s.transport = r :: rs) :
    step s = .next (((s.setDevice (burstWrite g B r s.device)).setTransport rs).finish r.callReport) := by
  rw [step_eq, hc]
  simp only [burstStep, if_pos hop, readBlock_of_out_ok ho, ht]

/-- A burst without a report waits (log 7). -/
theorem step_of_unreported_burst (hc : s.consumer = .bursting g) (hop : s.op = targetOp g)
    (ho : s.out = .result (.ok B)) (ht : s.transport = []) : step s = .next s := by
  rw [step_eq, hc]
  simp only [burstStep, if_pos hop, readBlock_of_out_ok ho, ht]

/-- The block's bytes are in its registers already, so a second burst of them finds nothing to change (R52). -/
theorem burstWrite_again_read (g : Target) (B : Block) (m : Memory) (x : Byte) :
    (burstWrite g B .success (burstWrite g B .success m)).read x = (burstWrite g B .success m).read x := by
  by_cases hx : ∃ k, x = blockRegister g k
  · obtain ⟨k, rfl⟩ := hx
    simp [burstWrite_read_lane, BusReport.lands]
  · exact burstWrite_read_other g B .success _ (not_exists.1 hx)

end Burst

/-- Settles O31: the burst of the block is all that the step writes. -/
theorem burstWritesItsLanes : Obligations.BurstWritesItsLanes := by
  intro s g B rs hc hop ho ht
  refine ⟨_, step_of_successful_burst hc hop ho ht, ?done, fun k => ?lane, fun x hx => ?other, ?frame⟩
  case done => simp [CallDone]
  case lane => simp [burstWrite_read_lane, BusReport.lands]
  case other => simpa using burstWrite_read_other g B .success s.device hx
  case frame => simp

/-- Settles O32: each lane lands or not as the report says. -/
theorem failedBurstOldOrNew : Obligations.FailedBurstOldOrNew := by
  intro s g B landed rs hc hop ho ht
  refine ⟨_, step_of_reported_burst hc hop ho ht, rfl, rfl, ?told, fun k => ?lane, fun x hx => ?other⟩
  case told => simp [BusReport.callReport]
  case lane => simp [burstWrite_read_lane, BusReport.lands]
  case other => simpa using burstWrite_read_other g B (.failed landed) s.device hx

/-- Settles O33: the second burst writes to each register the byte the first one left there. -/
theorem rewriteChangesNothing : Obligations.RewriteChangesNothing := by
  intro s g B rs hc hop ho ht
  have hfirst := step_of_successful_burst hc hop ho ht
  refine ⟨_, _, hfirst, step_of_successful_burst (g := g) (B := B) (rs := rs) rfl ?kind ?result rfl, fun x => ?rewritten⟩
  case kind => simpa using hop
  case result => simpa using ho
  case rewritten => simpa using burstWrite_again_read g B s.device x

/-- Settles O34: the burst compares the result's kind with its target's first. -/
theorem wrongKindIsRefused : Obligations.WrongKindIsRefused := by
  intro s g hc hop
  rw [step_eq, hc]
  exact if_neg hop

/-- Settles O35: each access looks for its report before it changes anything. -/
theorem consumerBlocksOnTransport : Obligations.ConsumerBlocksOnTransport := by
  refine fun s ht => ⟨fun m hc => ?read, fun w ws hc => ?write, fun g B hc hop ho => ?burst⟩
  case read =>
    rw [step_eq, hc]
    simp only [readStep, ht]
  case write =>
    rw [step_eq, hc]
    simp only [writeStep, ht]
  case burst => exact step_of_unreported_burst hc hop ho ht

end Sys2Proof
end

section
/-! The consumer's calls that write one register (R50, R143): a reset of a PLL and the three read-modify-writes. -/

namespace Sys2Proof

open Sys2Proof.Machine

/-! ## The steps of such a call -/

section Calls

variable {s : State} {cs : List Call} {rs : List BusReport}

theorem step_of_call {c : Call} (hc : s.consumer = .ready) (hp : s.program = c :: cs) :
    step s = beginCall c (s.setProgram cs) := by
  rw [step_of_ready hc, readyStep, hp]

theorem step_of_acknowledged_read {m : Rmw} (hc : s.consumer = .reading m) (ht : s.transport = .success :: rs) :
    step s = .next ((s.setTransport rs).setConsumer (.writing [(m.register, m.apply (busValue s m.register))])) := by
  rw [step_eq, hc]
  simp only [readStep, ht]
  rfl

theorem step_of_acknowledged_write {w : Byte × Byte} {ws : List (Byte × Byte)} (hc : s.consumer = .writing (w :: ws))
    (ht : s.transport = .success :: rs) :
    step s = .next (((s.applyWrite w .success).setTransport rs).setConsumer (.writing ws)) := by
  rw [step_eq, hc]
  simp only [writeStep, ht]

theorem step_of_no_write_left (hc : s.consumer = .writing []) : step s = .next (s.finish .done) := by
  rw [step_eq, hc]
  rfl

/-- An acknowledged write of one register: one step writes it, and the next one ends the call. -/
theorem steps_of_one_write {a v : Byte} (hc : s.consumer = .writing [(a, v)]) (ht : s.transport = .success :: rs) :
    ∃ t, steps 2 s = .next t ∧ CallDone s t s.program rs ∧ WritesOnly s t a v := by
  refine ⟨_, (steps_succ_of_step (step_of_acknowledged_write hc ht) 1).trans
    ((steps_one _).trans (step_of_no_write_left rfl)), ?done, ?same, fun x hx => ?other⟩
  case done => simp [CallDone]
  case same => exact busWrite_read_same (a, v) .success s.device
  case other => exact busWrite_read_other (a, v) .success s.device hx

/-- An acknowledged read-modify-write, from the call on: the register it read is written with what it makes of the byte. -/
theorem steps_of_readModifyWrite {c : Call} {m : Rmw} (hc : s.consumer = .ready) (hp : s.program = c :: cs)
    (ht : s.transport = .success :: .success :: rs)
    (hcall : beginCall c (s.setProgram cs) = .next ((s.setProgram cs).setConsumer (.reading m))) :
    ∃ t, steps 4 s = .next t ∧ CallDone s t cs rs ∧ WritesOnly s t m.register (m.apply (busValue s m.register)) := by
  have hread := step_of_acknowledged_read (s := (s.setProgram cs).setConsumer (.reading m)) rfl ht
  rw [steps_succ_of_step ((step_of_call hc hp).trans hcall), steps_succ_of_step hread]
  exact steps_of_one_write rfl rfl

end Calls

/-- Settles O38: the call's one write is that of its PLL's bit. -/
theorem resetPllWritesItsBit : Obligations.ResetPllWritesItsBit := by
  intro s pll cs rs hc hp ht
  rw [steps_succ_of_step (step_of_call hc hp)]
  cases pll <;> exact steps_of_one_write rfl ht

/-! ## What a read-modify-write makes of the byte (R50) -/

theorem getLsbD_setBit (v : Byte) (i : Fin 8) (on : Bool) (j : Fin 8) :
    (setBit v i on).getLsbD j.val = if j = i then on else v.getLsbD j.val := by
  have hbit : (1#8 <<< i.val).getLsbD j.val = decide (j = i) := by
    rw [← BitVec.twoPow_eq, BitVec.getLsbD_twoPow, decide_eq_true i.isLt, Bool.true_and]
    exact decide_eq_decide.2 ⟨fun h => Fin.ext h.symm, fun h => h ▸ rfl⟩
  have hset : (if on then 1#8 <<< i.val else 0).getLsbD j.val = (on && decide (j = i)) := by
    cases on
    · exact BitVec.getLsbD_zero
    · exact hbit
  rw [setBit, BitVec.getLsbD_or, BitVec.getLsbD_and, BitVec.getLsbD_not, hbit, hset, decide_eq_true j.isLt]
  by_cases h : j = i <;> simp [h]

/-- setupPower takes bits 1:0 from the level and the others from the byte it read. -/
theorem getLsbD_apply_power (pin : Pin) (level : BitVec 2) (v : Byte) (j : Fin 8) :
    ((Rmw.power pin level).apply v).getLsbD j.val = if j.val < 2 then level.getLsbD j.val else v.getLsbD j.val := by
  have hmask : (0xFC : Byte).getLsbD j.val = decide (2 ≤ j.val) := by revert j; decide
  rw [Rmw.apply, BitVec.getLsbD_or, BitVec.getLsbD_and, BitVec.getLsbD_setWidth, hmask, decide_eq_true j.isLt]
  by_cases h : j.val < 2
  · simp [h]
  · rw [decide_eq_true (show 2 ≤ j.val by omega), BitVec.getLsbD_of_ge level j.val (by omega)]
    simp [h]

section Parts

variable {u v : Byte} {k : Nat}

theorem toNat_mod_two_pow_congr (h : ∀ j : Fin 8, j.val < k → u.getLsbD j.val = v.getLsbD j.val) :
    u.toNat % 2 ^ k = v.toNat % 2 ^ k := by
  refine Nat.eq_of_testBit_eq fun i => ?_
  rw [Nat.testBit_mod_two_pow, Nat.testBit_mod_two_pow, BitVec.testBit_toNat, BitVec.testBit_toNat]
  by_cases hk : i < k
  · by_cases hi : i < 8
    · rw [h ⟨i, hi⟩ hk]
    · rw [BitVec.getLsbD_of_ge u i (by omega), BitVec.getLsbD_of_ge v i (by omega)]
  · rw [decide_eq_false hk, Bool.false_and, Bool.false_and]

theorem toNat_div_two_pow_congr (h : ∀ j : Fin 8, k ≤ j.val → u.getLsbD j.val = v.getLsbD j.val) :
    u.toNat / 2 ^ k = v.toNat / 2 ^ k := by
  refine Nat.eq_of_testBit_eq fun i => ?_
  rw [Nat.testBit_div_two_pow, Nat.testBit_div_two_pow, BitVec.testBit_toNat, BitVec.testBit_toNat]
  by_cases hi : i + k < 8
  · exact h ⟨i + k, hi⟩ (Nat.le_add_left k i)
  · rw [BitVec.getLsbD_of_ge u _ (by omega), BitVec.getLsbD_of_ge v _ (by omega)]

end Parts

theorem apply_power_parts (pin : Pin) (level : BitVec 2) (v : Byte) :
    ((Rmw.power pin level).apply v).toNat % 4 = level.toNat ∧ ((Rmw.power pin level).apply v).toNat / 4 = v.toNat / 4 := by
  constructor
  · have hlow : ((Rmw.power pin level).apply v).toNat % 2 ^ 2 = (level.setWidth 8).toNat % 2 ^ 2 :=
      toNat_mod_two_pow_congr fun j hj => by
        rw [getLsbD_apply_power, if_pos hj, BitVec.getLsbD_setWidth, decide_eq_true j.isLt, Bool.true_and]
    have := level.isLt
    rw [BitVec.toNat_setWidth] at hlow
    omega
  · exact toNat_div_two_pow_congr (k := 2) fun j hj => by rw [getLsbD_apply_power, if_neg (by omega)]

theorem apply_shutDown_parts (pin : Pin) (down : Bool) (v : Byte) :
    ((Rmw.shutDown pin down).apply v).toNat / 128 = (if down then 1 else 0) ∧
      ((Rmw.shutDown pin down).apply v).toNat % 128 = v.toNat % 128 := by
  rw [Rmw.apply]
  constructor
  · have hbit : (setBit v 7 down).toNat.testBit 7 = down := (getLsbD_setBit v 7 down 7).trans (if_pos rfl)
    have := (setBit v 7 down).isLt
    calc (setBit v 7 down).toNat / 128 = (setBit v 7 down).toNat / 2 ^ 7 % 2 := by omega
      _ = ((setBit v 7 down).toNat.testBit 7).toNat := (Nat.toNat_testBit _ 7).symm
      _ = if down then 1 else 0 := by rw [hbit]; cases down <;> rfl
  · exact toNat_mod_two_pow_congr (k := 7) fun j hj => by rw [getLsbD_setBit, if_neg (Fin.ne_of_val_ne (by simp; omega))]

/-- The register of an output's clock control is 16 + i (R50). -/
theorem clockControl_eq (pin : Pin) : clockControl pin = BitVec.ofNat 8 (16 + pin.val) := by
  revert pin
  decide

/-- Settles O41: each call reads its register and writes it back with its own bits changed alone. -/
theorem readModifyWrite : Obligations.ReadModifyWrite := by
  intro s pin cs rs hc ht
  rw [← clockControl_eq]
  refine ⟨fun level hp => ?power, fun down hp => ?shutDown, fun enable hp => ?output⟩
  case power =>
    obtain ⟨t, hsteps, hdone, hwrites⟩ := steps_of_readModifyWrite (m := .power pin level) hc hp ht rfl
    exact ⟨t, _, _, hsteps, hdone, hwrites, rfl, apply_power_parts pin level _⟩
  case shutDown =>
    obtain ⟨t, hsteps, hdone, hwrites⟩ := steps_of_readModifyWrite (m := .shutDown pin down) hc hp ht rfl
    exact ⟨t, _, _, hsteps, hdone, hwrites, rfl, apply_shutDown_parts pin down _⟩
  case output =>
    obtain ⟨t, hsteps, hdone, hwrites⟩ := steps_of_readModifyWrite (m := .disable pin enable) hc hp ht rfl
    refine ⟨t, _, _, hsteps, hdone, hwrites, rfl, getLsbD_setBit _ _ _, fun other ho => ?_⟩
    exact (getLsbD_setBit _ _ _ _).trans (if_neg fun h => ho (disableBit_injective h))

end Sys2Proof
end

section
/-! The request word and the operation it stands for (R60 to R63, R69), the flattened result (R65), and the setup calls that
present a request and take its result (R68, R140, R141). -/

namespace Sys2Proof

open Sys2Proof.Machine

/-! ## The fields of a word (R60) -/

section Fields

variable (w : Request)

theorem toNat_op : w.op.toNat = w.toNat / 2 ^ 96 := by
  have := w.isLt
  simp only [Request.op, BitVec.extractLsb_toNat, Nat.shiftRight_eq_div_pow]
  omega

theorem toNat_x : w.x.toNat = w.toNat / 2 ^ 64 % 2 ^ 32 := by
  simp only [Request.x, BitVec.extractLsb_toNat, Nat.shiftRight_eq_div_pow]

theorem toNat_y : w.y.toNat = w.toNat / 2 ^ 32 % 2 ^ 32 := by
  simp only [Request.y, BitVec.extractLsb_toNat, Nat.shiftRight_eq_div_pow]

theorem toNat_z : w.z.toNat = w.toNat % 2 ^ 32 := by
  simp only [Request.z, BitVec.extractLsb_toNat, Nat.shiftRight_zero]

theorem op_eq_zero_iff : w.op = 0 ↔ w.toNat / 2 ^ 96 = 0 := by
  rw [← toNat_op, ← BitVec.toNat_inj]
  rfl

theorem op_eq_zero_or_one : w.op = 0 ∨ w.op = 1 := BitVec.eq_zero_or_eq_one w.op

end Fields

/-! ## Words and operations (R61, R62, R69) -/

/-- Settles O1: the model's fields are the word's bits, read as numbers. -/
theorem decodeSelectsByOp : Obligations.DecodeSelectsByOp := by
  intro w
  simp only [decode, zext32, toNat_x, toNat_y, toNat_z, op_eq_zero_iff]

/-- A port's value fits the port (R63). -/
theorem fitsPort_zext32 (v : Word) : fitsPort (zext32 v) := v.isLt

theorem ofNat_zext32 (v : Word) : BitVec.ofNat 32 (zext32 v) = v := by
  rw [zext32, BitVec.ofNat_toNat, BitVec.setWidth_eq]

/-- A word decodes to an operation whose operands are values of the ports (R63, R69). -/
theorem wellFormed_decode (w : Request) : WellFormed (decode w) = true := by
  unfold decode
  split <;> simp only [WellFormed, decide_eq_true (fitsPort_zext32 _), Bool.and_self]

/-- No bit of a word is dropped: OP chooses the operation, and X, Y and Z are its operands (R61, R62). -/
theorem encode_decode (w : Request) : encode (decode w) = w := by
  obtain hop | hop := op_eq_zero_or_one w
  · rw [decode, if_pos hop, encode, ofNat_zext32, ofNat_zext32, ofNat_zext32, ← hop, Request.make_fields]
  · rw [decode, if_neg (by rw [hop]; decide), encode, ofNat_zext32, ofNat_zext32, ofNat_zext32, ← hop,
      Request.make_fields]

/-- Settles O3: each operation is read back from its word, and each word is written back from its operation. -/
theorem encodeDecodeInverse : Obligations.EncodeDecodeInverse := by
  refine ⟨fun i => ?operation, fun w => ⟨wellFormed_decode w, encode_decode w⟩⟩
  cases i with
  | encPll a b c => exact Laws.RoundTrip.encPll a b c
  | encMs divider r z => exact Laws.RoundTrip.encMs divider r z

theorem decodeTableWord_of_lt {w : Nat} (h : w < 2 ^ 97) (nbits : Nat) :
    decodeTableWord nbits w = some (decode (BitVec.ofNat 97 w)) := by
  rw [decodeTableWord, decodeBits, if_pos h]

theorem decodeTableWord_of_ge {w : Nat} (h : 2 ^ 97 ≤ w) (nbits : Nat) : decodeTableWord nbits w = none := by
  rw [decodeTableWord, decodeBits, if_neg (Nat.not_lt.2 h)]

/-- Settles O2: the first four numbers have 97 bits and their fields are the operands, and the last has bit 97 set. -/
theorem specWordsDecode : Obligations.SpecWordsDecode := by
  refine ⟨?p12, ?p17, ?m3, ?m10, decodeTableWord_of_ge (by norm_num) 104⟩
  all_goals
    rw [decodeTableWord_of_lt (by norm_num)]
    decide

/-- Settles O12: the result of an ENC_MS word is a function of its other fields and the policy. -/
theorem msIgnoresZ : Obligations.MsIgnoresZ := by
  intro w w' s hop hop' hx hy
  have hz : w.op = 0 → w.z = w'.z := fun h => absurd (hop.symm.trans h) (by decide)
  rw [exec_eq, exec_eq, resultOf_decode_congr (hop.trans hop'.symm) hx hy hz fun _ => rfl]

/-! ## The flattened result (R65) -/

/-- The lanes below lane k are the low 8k bits, so leaving them out puts lane k lowest. -/
theorem extractLsb'_dout (B : Block) (k : Fin 8) : B.dout.extractLsb' (8 * k.val) 8 = B.lane k := by
  rw [Block.dout]
  match k with
  | 0 | 1 | 2 | 3 | 4 | 5 | 6 =>
    repeat rw [BitVec.extractLsb'_append_eq_of_le (by decide)]
    exact BitVec.extractLsb'_append_eq_right
  | 7 =>
    repeat rw [BitVec.extractLsb'_append_eq_of_le (by decide)]
    exact BitVec.extractLsb'_eq_self

theorem readDout_of_out_ok {s : State} {B : Block} (h : s.out = .result (.ok B)) : s.readDout = .ok B.dout := by
  rw [State.readDout, readBlock_of_out_ok h]

/-- Settles O17: DOUT and the lanes are read from one block. -/
theorem flattenedWord : Obligations.FlattenedWord := by
  intro s B ho
  exact ⟨B.dout, readDout_of_out_ok ho, fun k => by rw [readLane_of_out_ok ho, extractLsb'_dout]⟩

/-! ## A setup call with `LATENCY` 0 (R140, R148) -/

/-- The step that begins a call with a request evaluates it, and the consumer takes the result. -/
theorem step_of_request_call_zero {s : State} {c : Call} {cs : List Call} {g : Target} {w : Request}
    (hc : s.consumer = .ready) (hl : s.params.latency = 0) (hp : s.program = c :: cs)
    (hcall : beginCall c (s.setProgram cs) = serve ((s.setProgram cs).present g w)) :
    step s = andThen (exec (decode w) ((s.setProgram cs).present g w)) (fun t => takeResponse (t.setReq false)) := by
  have hl' : ((s.setProgram cs).present g w).params.latency = 0 := hl
  rw [step_of_call hc hp, hcall, serve, blockStep_zero _ hl', State.present_request]

/-- Settles O22: each call's word decodes to its operation. -/
theorem stepRunsCalledRequest : Obligations.StepRunsCalledRequest := by
  refine fun s cs hc hl => ⟨fun pll a b c hp => ?pll, fun pin divider r hp => ?ms⟩
  case pll => rw [step_of_request_call_zero hc hl hp rfl, decode_make_zero]
  case ms =>
    rw [step_of_request_call_zero hc hl hp rfl, decode_make_one]
    rfl

/-! ## A setup call with `LATENCY` > 0, cycle by cycle (R141) -/

/-- The state in which the request on the ports is alone in flight, held, with `l` cycles to go, and no strobe is high. -/
def Machine.State.waiting (s : State) (l : Nat) : State := (s.setPipe false [⟨s.request, l, true⟩]).setReq false

section Cycles

variable {s : State} {g : Target} {l : Nat}

/-- A cycle before the last one brings the awaited request one cycle nearer, and the consumer goes on awaiting it. -/
theorem step_of_awaiting_lone (hl : s.params.latency ≠ 0) (hc : s.consumer = .awaiting g) (hr : s.rst = false)
    (hd : OldestDueIn s (l + 2) []) : step s = .next (s.waiting (l + 1)) := by
  have hblock := (blockStep_pos s hl).trans (clockEdge_of_oldestDueIn hr hd)
  have hwait : (s.waiting (l + 1)).responded = false := by simp [State.waiting, State.responded, hl]
  exact (step_of_awaiting hc).trans ((serve_of_blockStep hblock).trans (takeResponse_of_not_responded hwait))

/-- In every cycle before the response the request is one cycle nearer, and nothing else has changed since the first. -/
theorem steps_while_awaiting_lone (k : Nat) : ∀ {s : State}, s.params.latency ≠ 0 → s.consumer = .awaiting g →
    s.rst = false → OldestDueIn s (k + l + 2) [] → steps (k + 1) s = .next (s.waiting (l + 1)) := by
  induction k with
  | zero =>
    intro s hl hc hr hd
    rw [Nat.zero_add] at hd
    exact (steps_one s).trans (step_of_awaiting_lone hl hc hr hd)
  | succ k ih =>
    intro s hl hc hr hd
    rw [show k + 1 + l + 2 = k + l + 1 + 2 by omega] at hd
    have hdue : OldestDueIn (s.waiting (k + l + 2)) (k + l + 2) [] := rfl
    rw [steps_succ_of_step (step_of_awaiting_lone hl hc hr hd)]
    exact ih hl hc hr hdue

/-- RSP with an empty pipeline is the response the consumer awaits (log 23). -/
theorem responded_answered (s : State) : (s.answered true []).responded = true := by
  simp [State.answered, State.responded]

end Cycles

/-- A setup call presents its word for its target (R68). -/
theorem request_call_of_setup {s : State} {cs : List Call} {g : Target} {w : Request}
    (h : (∃ pll a b c, s.program = .setupPll pll a b c :: cs ∧ g = .pll pll ∧ w = Request.make 0 a b c) ∨
      ∃ pin divider r, s.program = .setupMs pin divider r :: cs ∧ g = .ms pin ∧ w = Request.make 1 divider r 0) :
    ∃ c, s.program = c :: cs ∧ beginCall c (s.setProgram cs) = serve ((s.setProgram cs).present g w) := by
  obtain ⟨_, _, _, _, hp, rfl, rfl⟩ | ⟨_, _, _, hp, rfl, rfl⟩ := h <;> exact ⟨_, hp, rfl⟩

/-- Settles O27: the call's request is alone in the pipeline, counts down, and its result is taken in the cycle of RSP. -/
theorem setupCallCycles : Obligations.SetupCallCycles := by
  intro s cs g w hc hl hr he hsetup
  obtain ⟨c, hp, hcall⟩ := request_call_of_setup hsetup
  have hcalled := steps_of_request_call hc hp hcall
  have hd : OldestDueIn ((s.setProgram cs).present g w) s.params.latency [] :=
    oldestDueIn_of_strobe (decide_eq_true hl) he
  obtain ⟨L, hL⟩ := Nat.exists_eq_succ_of_ne_zero hl
  rw [hL] at hd ⊢
  refine ⟨fun k hk hkl => ?before, ?response⟩
  case before =>
    obtain ⟨k, rfl⟩ := Nat.exists_eq_succ_of_ne_zero (Nat.ne_of_gt hk)
    obtain ⟨l, rfl⟩ : ∃ l, L = k + l + 1 := ⟨L - k - 1, by omega⟩
    have hsteps := (hcalled k).trans (steps_while_awaiting_lone k hl (State.present_consumer ..) hr hd)
    have hleft : l + 1 = (k + l + 1).succ - k.succ := by omega
    rw [← hleft]
    exact ⟨_, hsteps, by simp [State.waiting]⟩
  case response =>
    have hsteps := (hcalled L).trans (steps_of_awaiting_lone L hl (State.present_consumer ..) hr hd)
    have hresponded := responded_answered ((s.setProgram cs).present g w)
    have hout : (((s.setProgram cs).present g w).answered true []).out =
        .result (resultOf s.params.rPolicy (decode w)) := by simp [State.answered]
    cases hres : resultOf s.params.rPolicy (decode w) with rw [hres] at hout
    | ok B => exact ⟨_, hsteps.trans (takeResponse_ok rfl hresponded hout), by simp [State.answered, hres]⟩
    | err e => exact ⟨_, hsteps.trans (takeResponse_err rfl hresponded hout), by simp [State.answered, hres]⟩

end Sys2Proof
end

section
/-! ENC_PLL in full: which result its operands give (R85, R86), and what comes back from the block of an accepted request
(R88, R89). -/

namespace Sys2Proof

open Sys2Proof.Machine

/-! ## The result on the outputs -/

/-- The outputs that carry a result are read as that result, and its code is on ERR (R65, R120). -/
theorem out_and_readErr_setOut_result (s : State) {r r' : Result} (h : r = r') :
    (s.setOut (.result r)).out = .result r' ∧ (s.setOut (.result r)).readErr = .ok r'.errPort := by
  rw [State.readErr, State.setOut_out, h, Output.read]
  exact ⟨rfl, rfl⟩

/-- A word with OP 0 is ENC_PLL of its three fields (R61, R63). -/
theorem decode_of_op_zero {w : Request} (h : w.op = 0) : decode w = .encPll w.x.toNat w.y.toNat w.z.toNat := by
  rw [decode, if_pos h, zext32, zext32, zext32]

theorem exec_encPll_eq (a b c : Nat) (s : State) :
    exec (.encPll a b c) s = .next (s.setOut (.result (encodePll a b c))) := exec_eq s _

/-- The result that an ENC_PLL leaves on the outputs is that of its operands. -/
theorem encodePll_eq_of_exec {a b c : Nat} {s t : State} {r : Result} (ht : exec (.encPll a b c) s = .next t)
    (ho : t.out = .result r) : encodePll a b c = r := by
  cases (exec_encPll_eq a b c s).symm.trans ht
  exact Output.result.inj ho

/-! ## The checks on the operands (R85, R86) -/

theorem encodePll_divZero {a b c : Nat} (h : c = 0) : encodePll a b c = .err .divZero := by
  rw [encodePll_cases, if_pos h]

theorem encodePll_p3Range {a b c : Nat} (h : 2 ^ 20 ≤ c) : encodePll a b c = .err .p3Range := by
  rw [encodePll_cases, if_neg (by omega), if_pos h]

theorem encodePll_fracRange {a b c : Nat} (h0 : c ≠ 0) (hc : c < 2 ^ 20) (hb : c ≤ b) :
    encodePll a b c = .err .fracRange := by
  rw [encodePll_cases, if_neg h0, if_neg (Nat.not_le.2 hc), if_pos hb]

theorem encodePll_p1Range_iff {a b c : Nat} (hb : b < c) (hc : c < 2 ^ 20) :
    encodePll a b c = .err .p1Range ↔ a < 4 ∨ 2051 < a := by
  rw [encodePll_cases, if_neg (by omega), if_neg (Nat.not_le.2 hc), if_neg (Nat.not_le.2 hb)]
  by_cases ha : a < 4 ∨ 2051 < a
  · rw [if_pos ha]
    exact iff_of_true rfl ha
  · rw [if_neg ha]
    exact iff_of_false Result.noConfusion ha

/-- p1 fits its 18 bits exactly for a in 4 .. 2051 (R86). -/
theorem pllP1_in_iff {b c : Nat} (a : Nat) (hb : b < c) :
    (0 ≤ pllP1 a b c ∧ pllP1 a b c ≤ 2 ^ 18 - 1) ↔ (4 ≤ a ∧ a ≤ 2051) := by
  have hout := pllP1_out_iff a hb
  omega

/-- Settles O6: f is at most 127, so p1 leaves its 18 bits exactly when a leaves 4 .. 2051, and with the earlier checks
passed that is the check left. -/
theorem pllRangeOfA : Obligations.PllRangeOfA := by
  refine fun a b c s hb => ⟨pllP1_in_iff a hb, fun hc => ⟨_, exec_encPll_eq a b c s, ?_⟩⟩
  rw [State.setOut_out, Output.result.injEq]
  exact encodePll_p1Range_iff hb hc

/-! ## The fields of an accepted request (R81 to R83, R88) -/

/-- DecodePll of the block of an accepted request gives the fields it was packed from (R89). -/
theorem decodePll_of_encodePll_ok {a b c : Nat} {B : Block} (h : encodePll a b c = .ok B) :
    ∃ F, decodePll B = some F ∧
      (F.p1.toNat : Int) = pllP1 a b c ∧ (F.p2.toNat : Int) = pllP2 b c ∧ F.p3.toNat = c := by
  obtain ⟨hb, hc, ha⟩ := encodePll_eq_ok h
  obtain ⟨F, hF, h1, h2, h3⟩ := decodePll_packFields hc hb ha
  cases h.symm.trans (encodePll_ok hc hb ha)
  exact ⟨F, hF, h1, h2, Int.ofNat.inj h3⟩

/-- Settles O4: the outputs carry the result of the operands, and the checks are taken in their order. -/
theorem encPllResult : Obligations.EncPllResult := by
  refine ⟨fun w hop => decode_of_op_zero hop, fun a b c s => ⟨_, exec_encPll_eq a b c s, rfl, ?_⟩⟩
  have drives {r : Result} := out_and_readErr_setOut_result s (r := encodePll a b c) (r' := r)
  refine ⟨fun h0 => drives (encodePll_divZero h0), fun hc => drives (encodePll_p3Range (by omega)),
    fun h0 hc hb => drives (encodePll_fracRange (by omega) (by omega) hb), ?_⟩
  rintro h0 hc hb f p1 p2 rfl rfl rfl
  have hc' : c < 2 ^ 20 := by omega
  refine ⟨Nat.le_of_lt_succ (pllF_lt hb), fun hout => ?p1Range, fun hlo hhi => ?accepted⟩
  case p1Range => exact drives ((encodePll_p1Range_iff hb hc').2 ((pllP1_out_iff a hb).1 hout))
  case accepted =>
    have hB := encodePll_ok hc' hb ((pllP1_in_iff a hb).1 ⟨hlo, hhi⟩)
    obtain ⟨F, hF, hfields⟩ := decodePll_of_encodePll_ok hB
    obtain ⟨hout, herr⟩ := drives hB
    exact ⟨herr, _, F, hout, hF, hfields⟩

/-! ## The operands of an accepted request (R89) -/

section Recover

variable {a b c n : Nat}

/-- p1 + 512 is 128 a + f with f below 128: f is its low seven bits, and a the rest (R80, R81). -/
theorem pllP1_recovers (hb : b < c) (h : (n : Int) = pllP1 a b c) :
    (n + 512) % 128 = pllF b c ∧ (n + 512) / 128 = a := by
  have hf := pllF_lt hb
  rw [pllP1] at h
  omega

theorem pllP2_add_mul_pllF (h : (n : Int) = pllP2 b c) : n + c * pllF b c = 128 * b := by
  rw [pllP2] at h
  push_cast [← Nat.cast_inj (R := Int)]
  rw [h, sub_add_cancel]

end Recover

/-- Blocks of accepted requests with different c differ in p3 (R89). -/
theorem encodePll_ok_c_injective {a b c a' b' c' : Nat} {B : Block} (h : encodePll a b c = .ok B)
    (h' : encodePll a' b' c' = .ok B) : c = c' := by
  obtain ⟨F, hF, _, _, h3⟩ := decodePll_of_encodePll_ok h
  obtain ⟨F', hF', _, _, h3'⟩ := decodePll_of_encodePll_ok h'
  cases hF.symm.trans hF'
  exact h3.symm.trans h3'

/-- Settles O8: the fields read back from an accepted block are those of R81 to R83, and f, a, b and c follow from them in
turn. -/
theorem pllRecoverable : Obligations.PllRecoverable := by
  refine ⟨fun a b c s hb hc ha ha' => ?accepted, fun a b c s t B ht ho => ⟨?decoded, ?distinct⟩⟩
  case accepted => exact ⟨_, _, exec_encPll_eq a b c s, congrArg Output.result (encodePll_ok hc hb ⟨ha, ha'⟩)⟩
  case decoded =>
    have hok := encodePll_eq_of_exec ht ho
    obtain ⟨hb, _⟩ := encodePll_eq_ok hok
    obtain ⟨F, hF, h1, h2, h3⟩ := decodePll_of_encodePll_ok hok
    obtain ⟨hf, ha⟩ := pllP1_recovers hb h1
    refine ⟨F, hF, ?fields, h3.symm, ha.symm, ?numerator, recoverPll_fields hb h1 h2 (congrArg Int.ofNat h3)⟩
    case fields =>
      rintro f rfl
      exact ⟨h1, h2, h3, hf.symm⟩
    case numerator => rw [hf, pllP2_add_mul_pllF h2]
  case distinct =>
    rintro a' b' c' s' t' B' ht' ho' hne rfl
    exact hne (encodePll_ok_c_injective (encodePll_eq_of_exec ht ho) (encodePll_eq_of_exec ht' ho'))

end Sys2Proof
end

section
/-! ENC_MS in full: which result its operands give (R104, R105), and what comes back from the block of an accepted request
(R107, R108, R109). -/

namespace Sys2Proof

open Sys2Proof.Machine

/-! ## The word and the result on the outputs -/

/-- A word with OP 1 is ENC_MS of its three fields (R61, R63). -/
theorem decode_of_op_one {w : Request} (h : w.op = 1) : decode w = .encMs w.x.toNat w.y.toNat w.z.toNat := by
  rw [decode, if_neg (by rw [h]; decide), zext32, zext32, zext32]

theorem exec_encMs_eq (divider r z : Nat) (s : State) :
    exec (.encMs divider r z) s = .next (s.setOut (.result (encodeMs s.params.rPolicy divider r))) := exec_eq s _

/-- The result that an ENC_MS leaves on the outputs is that of its first two operands and the policy. -/
theorem encodeMs_eq_of_exec {divider r z : Nat} {s t : State} {u : Result} (ht : exec (.encMs divider r z) s = .next t)
    (ho : t.out = .result u) : encodeMs s.params.rPolicy divider r = u := by
  cases (exec_encMs_eq divider r z s).symm.trans ht
  exact Output.result.inj ho

/-! ## The exponent of r (R100) -/

section Exponent

variable {r n : Nat}

theorem msExponent_eq_iff (h : r ≠ 0) : msExponent r = n ↔ 2 ^ n ≤ r ∧ r < 2 ^ (n + 1) := Nat.log2_eq_iff h

/-- A power of two is the one of its own exponent. -/
theorem exists_eq_two_pow_iff : (∃ k, r = 2 ^ k) ↔ r = 2 ^ msExponent r := by
  refine ⟨?_, fun h => ⟨_, h⟩⟩
  rintro ⟨k, rfl⟩
  rw [msExponent, Nat.log2_two_pow]

theorem notPow2_iff (h : r ≠ 0) : notPow2 r = true ↔ r ≠ 2 ^ msExponent r := by
  rw [← Bool.not_eq_false, notPow2_eq_false_iff h, exists_eq_two_pow_iff]

end Exponent

/-! ## The checks on the operands (R104, R105) -/

/-- The cases of ENC_MS, in the order of its checks (R122), with those on r read on its exponent (R100). -/
theorem encodeMs_cases (policy : RPolicy) (divider r : Nat) :
    encodeMs policy divider r =
      if divider < 4 ∨ 2051 < divider then .err .p1Range
      else if r = 0 then .err .rZero
      else if policy = .strict ∧ r ≠ 2 ^ msExponent r then .err .rNotPow2
      else if 15 < msExponent r then .err .rRange
      else .ok (packFields (msP1 divider) 0 1 (msExponent r) (divBy4Flag divider)) := by
  unfold encodeMs raiseParamRangeError
  by_cases h0 : r = 0
  · rw [if_pos h0, if_pos h0]
  · simp only [notPow2_iff h0, Config.nMax, gt_iff_lt]

section Checks

variable {policy : RPolicy} {divider r n : Nat}

theorem encodeMs_p1Range (hd : divider < 4 ∨ 2051 < divider) : encodeMs policy divider r = .err .p1Range := by
  rw [encodeMs_cases, if_pos hd]

theorem encodeMs_rZero (hd : 4 ≤ divider ∧ divider ≤ 2051) (h0 : r = 0) :
    encodeMs policy divider r = .err .rZero := by
  rw [encodeMs_cases, if_neg (by omega), if_pos h0]

theorem encodeMs_rNotPow2 (hd : 4 ≤ divider ∧ divider ≤ 2051) (h0 : r ≠ 0) (hs : policy = .strict)
    (hk : ¬ ∃ k, r = 2 ^ k) : encodeMs policy divider r = .err .rNotPow2 := by
  rw [encodeMs_cases, if_neg (by omega), if_neg h0, if_pos ⟨hs, exists_eq_two_pow_iff.not.1 hk⟩]

/-- Where the policy takes r, its exponent is the one check left (R104). -/
theorem encodeMs_of_exponent (hd : 4 ≤ divider ∧ divider ≤ 2051) (hr : 2 ^ n ≤ r ∧ r < 2 ^ (n + 1))
    (hp : policy = .floor ∨ ∃ k, r = 2 ^ k) :
    encodeMs policy divider r =
      if 15 < n then .err .rRange else .ok (packFields (msP1 divider) 0 1 n (divBy4Flag divider)) := by
  have h0 : r ≠ 0 := Nat.ne_of_gt ((Nat.two_pow_pos n).trans_le hr.1)
  have hpow : ¬ (policy = .strict ∧ r ≠ 2 ^ msExponent r) := by
    rintro ⟨rfl, hne⟩
    exact hne (exists_eq_two_pow_iff.1 (hp.resolve_left RPolicy.noConfusion))
  rw [encodeMs_cases, if_neg (by omega), if_neg h0, if_neg hpow, (msExponent_eq_iff h0).2 hr]

/-- What ENC_MS accepts: the operands of R104, r with an exponent of at most 15 and, under STRICT, a power of two. -/
theorem encodeMs_eq_ok {B : Block} (h : encodeMs policy divider r = .ok B) :
    (4 ≤ divider ∧ divider ≤ 2051) ∧
      ∃ n, (2 ^ n ≤ r ∧ r < 2 ^ (n + 1)) ∧ n ≤ 15 ∧ (policy = .floor ∨ r = 2 ^ n) := by
  rw [encodeMs_cases] at h
  split_ifs at h with hd h0 hpow hn
  refine ⟨by omega, msExponent r, (msExponent_eq_iff h0).1 rfl, Nat.not_lt.1 hn, ?_⟩
  cases policy with
  | strict => exact .inr (not_not.1 fun hne => hpow ⟨rfl, hne⟩)
  | floor => exact .inl rfl

end Checks

/-! ## The fields of an accepted request (R100 to R103, R108) -/

theorem toNat_divBy4Flag (divider : Nat) : (divBy4Flag divider).toNat = if divider = 4 then 3 else 0 := by
  rw [divBy4Flag, apply_ite BitVec.toNat]
  rfl

/-- DecodeMs of the packed fields of accepted operands gives them back (R108). -/
theorem decodeMs_packFields {divider n : Nat} (hd : 4 ≤ divider ∧ divider ≤ 2051) (hn : n ≤ 15) :
    ∃ F, decodeMs (packFields (msP1 divider) 0 1 n (divBy4Flag divider)) = some F ∧
      F.p1.toNat = 128 * divider - 512 ∧ F.p2 = 0 ∧ F.p3 = 1 ∧ F.n.toNat = n ∧
      F.dv.toNat = if divider = 4 then 3 else 0 := by
  have h1 : msP1 divider = (128 * divider - 512 : Nat) := by rw [msP1]; omega
  exact ⟨_, decodeMs_pack _ _ _, toNat_ofInt_of_fits h1 (by omega), rfl, rfl,
    (BitVec.toNat_ofNat n 4).trans (Nat.mod_eq_of_lt (by omega)), toNat_divBy4Flag divider⟩

/-- Settles O9: the outputs carry the result of the operands, and the checks are taken in their order. -/
theorem encMsResult : Obligations.EncMsResult := by
  refine ⟨fun w hop => decode_of_op_one hop, fun divider r z s => ⟨_, exec_encMs_eq divider r z s, rfl, ?_⟩⟩
  have drives {u : Result} := out_and_readErr_setOut_result s (r := encodeMs s.params.rPolicy divider r) (r' := u)
  refine ⟨fun hd => drives (encodeMs_p1Range hd), fun hd hd' => ⟨fun h0 => drives (encodeMs_rZero ⟨hd, hd'⟩ h0),
    fun h0 hs hk => drives (encodeMs_rNotPow2 ⟨hd, hd'⟩ (Nat.ne_of_gt h0) hs hk), fun hp n hr hr' => ?_⟩⟩
  have hres := encodeMs_of_exponent ⟨hd, hd'⟩ ⟨hr, hr'⟩ hp
  refine ⟨fun hn => drives (hres.trans (if_pos hn)), fun hn => ?accepted⟩
  obtain ⟨F, hF, hfields⟩ := decodeMs_packFields ⟨hd, hd'⟩ hn
  obtain ⟨hout, herr⟩ := drives (hres.trans (if_neg (Nat.not_lt.2 hn)))
  exact ⟨herr, _, F, hout, hF, hfields⟩

/-! ## Divider 4 (R107) -/

/-- Bits 3:2 of B[2] hold divby4Flag, which only divider 4 sets (R103). -/
theorem b2_flag_eq_zero_of_encodeMs_ok {policy : RPolicy} {divider r : Nat} {B : Block} (hne : divider ≠ 4)
    (h : encodeMs policy divider r = .ok B) : B.b2.toNat / 4 % 4 = 0 := by
  obtain ⟨⟨hd, hd'⟩, n, ⟨hr, hr'⟩, hn, hp⟩ := encodeMs_eq_ok h
  obtain ⟨B', hB', hl⟩ := encodeMs_accepted hd hd' rfl hr hr' hn hp
  cases h.symm.trans hB'
  have h2 : some B.b2.toNat = _ := (lanes_getElem? B 2).symm.trans (congrArg (·[2]?) hl)
  simp only [msLanes, if_neg hne, List.getElem?_cons_succ, List.getElem?_cons_zero, Option.some.injEq] at h2
  omega

/-- Settles O11: for divider 4 the lanes of R106 have p1 = 0 and divby4Flag 3, and for any other the flag is 0. -/
theorem divideByFourBlock : Obligations.DivideByFourBlock := by
  refine ⟨fun n r z s hr hr' hn hp => ?four, fun divider r z s t B hne ht ho => ?other⟩
  case four => exact encMsLanes 4 r z n 0 s (by decide) (by decide) rfl hr hr' hn hp
  case other => exact b2_flag_eq_zero_of_encodeMs_ok hne (encodeMs_eq_of_exec ht ho)

/-! ## The operands of an accepted request (R109) -/

/-- Settles O13: p1 + 512 is 128 times the divider, and n is the exponent of r, which under STRICT is 2^n. -/
theorem msRecoverable : Obligations.MsRecoverable := by
  intro divider r z s t B ht ho
  have hok := encodeMs_eq_of_exec ht ho
  obtain ⟨⟨hd, hd'⟩, n, ⟨hr, hr'⟩, hn, hp⟩ := encodeMs_eq_ok hok
  have hres := encodeMs_of_exponent ⟨hd, hd'⟩ ⟨hr, hr'⟩ (hp.imp_right fun h => ⟨n, h⟩)
  cases hok.symm.trans (hres.trans (if_neg (Nat.not_lt.2 hn)))
  obtain ⟨F, hF, h1, _, _, h4, _⟩ := decodeMs_packFields ⟨hd, hd'⟩ hn
  have hdiv : 128 * divider = F.p1.toNat + 512 := by omega
  refine ⟨F, n, hF, ?recovered, hdiv, h4.symm, hr, hr', fun hs => hp.resolve_left ?strict⟩
  case recovered => rw [recoverMs, ← hdiv, Nat.mul_div_cancel_left divider (by decide), h4]
  case strict =>
    rw [hs]
    exact RPolicy.noConfusion

end Sys2Proof
end

section
/-! What an operation's request ends in: one result, with the code of its first cause on ERR and the lanes readable only on
`Ok` (R120 to R123). -/

namespace Sys2Proof

open Sys2Proof.Machine

/-! ## The code on ERR (R121, R122) -/

theorem readErr_of_out_result {s : State} {r : Result} (h : s.out = .result r) : s.readErr = .ok r.errPort := by
  rw [State.readErr, h, Output.read]

theorem readErr_setOut_result_eq_ok_iff (s : State) (r : Result) (e : BitVec 3) :
    (s.setOut (.result r)).readErr = .ok e ↔ r.errPort.toNat = e.toNat := by
  rw [readErr_of_out_result (s.setOut_out _), Except.ok.injEq, BitVec.toNat_inj]

/-- The code of ENC_PLL's first cause, in the order of its checks (R122). -/
theorem errPort_encodePll (a b c : Nat) :
    (encodePll a b c).errPort.toNat =
      if c = 0 then 1 else if 2 ^ 20 ≤ c then 2 else if c ≤ b then 3 else if a < 4 ∨ 2051 < a then 4 else 0 := by
  rw [encodePll_cases]
  split_ifs <;> rfl

/-- The code of ENC_MS's first cause, in the order of its checks (R122). -/
theorem errPort_encodeMs (policy : RPolicy) (divider r : Nat) :
    (encodeMs policy divider r).errPort.toNat =
      if divider < 4 ∨ 2051 < divider then 4 else if r = 0 then 5
      else if policy = .strict ∧ r ≠ 2 ^ msExponent r then 6 else if 15 < msExponent r then 7 else 0 := by
  rw [encodeMs_cases]
  split_ifs <;> rfl

/-- The exponent passes `N_MAX` from 2^16 on; r = 0, which has none, is below that too (R104). -/
theorem two_pow_sixteen_le_iff (r : Nat) : 2 ^ 16 ≤ r ↔ 15 < msExponent r := by
  by_cases h0 : r = 0
  · subst h0
    decide
  · exact (msExponent_gt_iff h0).symm

/-- Settles O14: the checks are taken in the order of R122, so a code says that its own check failed and every earlier one
passed. -/
theorem errorPriority : Obligations.ErrorPriority := by
  refine ⟨fun a b c s => ⟨_, exec_encPll_eq a b c s, ?pll⟩, fun divider r z s => ⟨_, exec_encMs_eq divider r z s, ?ms⟩⟩
  case pll =>
    have hcode := errPort_encodePll a b c
    simp only [readErr_setOut_result_eq_ok_iff, BitVec.ofNat_eq_ofNat, BitVec.reduceToNat]
    split_ifs at hcode <;> omega
  case ms =>
    have hcode := errPort_encodeMs s.params.rPolicy divider r
    have h16 := two_pow_sixteen_le_iff r
    simp only [readErr_setOut_result_eq_ok_iff, exists_eq_two_pow_iff, BitVec.ofNat_eq_ofNat, BitVec.reduceToNat]
    cases hpolicy : s.params.rPolicy with rw [hpolicy] at hcode
    | strict =>
      simp only [true_and, reduceCtorEq, false_or] at hcode ⊢
      split_ifs at hcode <;> omega
    | floor =>
      simp only [reduceCtorEq, false_and, and_false, if_false, true_or, and_true, iff_false] at hcode ⊢
      split_ifs at hcode <;> omega

/-! ## One result (R120, R123) -/

theorem code_ne_zero (e : ErrCode) : e.code ≠ 0 := by
  cases e <;> decide

/-- Settles O15: the result on the outputs is `Ok` or `Err`, and no cause has code 0. -/
theorem oneResultPerRequest : Obligations.OneResultPerRequest := by
  intro i s
  refine ⟨_, exec_eq s i, ?_⟩
  have ho := s.setOut_out (.result (resultOf s.params.rPolicy i))
  cases hr : resultOf s.params.rPolicy i with rw [hr] at ho
  | ok B => exact .inl ⟨B, ho, readErr_of_out_result ho, readLane_of_out_ok ho⟩
  | err e => exact .inr ⟨e, ho, readErr_of_out_result ho, code_ne_zero e⟩

/-- On `Err` there is no block to read (R123). -/
theorem readBlock_of_out_err {s : State} {e : ErrCode} (h : s.out = .result (.err e)) :
    s.readBlock = .error .laneOnErr := by
  rw [State.readBlock, h, Output.read]

theorem lane_wires_err (e : ErrCode) (k : Fin 8) : (Result.err e).wires.lane k = 0 := by
  fin_cases k <;> rfl

/-- Settles O16: every reader of the lanes reads the block first, and on `Err` there is none. -/
theorem errLanesHaveNoValue : Obligations.ErrLanesHaveNoValue := by
  intro i s t e _ ho
  have hb := readBlock_of_out_err ho
  refine ⟨readErr_of_out_result ho, fun k => ⟨lane_wires_err e k, ?lane, ?dout⟩⟩
  case lane => rw [State.readLane, hb]
  case dout => rw [State.readDout, hb]

end Sys2Proof
end

section
/-! What ends a call early: a parameter-range error of a setup call, and an access of the controller that the transport
reports as failed (R68, R127, R128, R143). -/

namespace Sys2Proof

open Sys2Proof.Machine

section EndedCalls

variable {s : State} {cs : List Call} {rs : List BusReport} {landed : BitVec 8}

/-! ## A request that ends in `Err` (R127) -/

/-- A call whose request is answered by `Err` ends with the program stopped, after the cycles of the request (R68). -/
theorem steps_of_rejected_call {c : Call} {g : Target} {w : Request} {e : ErrCode} (hc : s.consumer = .ready)
    (hl : s.params.latency = 0 ∨ s.rst = false ∧ s.inFlight = []) (hp : s.program = c :: cs)
    (hcall : beginCall c (s.setProgram cs) = serve ((s.setProgram cs).present g w))
    (hres : resultOf s.params.rPolicy (decode w) = .err e) :
    ∃ b fs, steps (max 1 s.params.latency) s =
      .next (((((s.setProgram cs).present g w).answered b fs).setProgram []).finish (.rangeError e)) := by
  obtain ⟨b, fs, hr, hsteps⟩ := steps_of_answerable (State.present_consumer (s.setProgram cs) g w)
    (answerable_present (s := s.setProgram cs) hl g w)
  have hout : (((s.setProgram cs).present g w).answered b fs).out = .result (.err e) := by
    simp [State.answered, hres]
  have hcalled := steps_of_request_call hc hp hcall (max 1 s.params.latency - 1)
  rw [Nat.sub_add_cancel (Nat.le_max_left 1 _)] at hcalled
  exact ⟨b, fs, hcalled.trans (hsteps.trans (takeResponse_err rfl hr hout))⟩

/-! ## An access that the transport reports as failed (R128, R143) -/

/-- A failed read gives no value and ends its call (log 8). -/
theorem step_of_failed_read {m : Rmw} (hc : s.consumer = .reading m) (ht : s.transport = .failed landed :: rs) :
    step s = .next ((s.setTransport rs).finish .transportFailure) := by
  rw [step_eq, hc]
  simp only [readStep, ht]

/-- A failed write ends its call, whatever was left to write (R143). -/
theorem step_of_failed_write {w : Byte × Byte} {ws : List (Byte × Byte)} (hc : s.consumer = .writing (w :: ws))
    (ht : s.transport = .failed landed :: rs) :
    step s = .next (((s.applyWrite w (.failed landed)).setTransport rs).finish .transportFailure) := by
  rw [step_eq, hc]
  simp only [writeStep, ht]

/-- A read-modify-write whose read fails, from the call on: the caller is told, and the write never follows. -/
theorem steps_of_failed_readModifyWrite {c : Call} {m : Rmw} (hc : s.consumer = .ready) (hp : s.program = c :: cs)
    (ht : s.transport = .failed landed :: rs)
    (hcall : beginCall c (s.setProgram cs) = .next ((s.setProgram cs).setConsumer (.reading m))) :
    steps 2 s = .next ((((s.setProgram cs).setConsumer (.reading m)).setTransport rs).finish .transportFailure) := by
  rw [steps_succ_of_step ((step_of_call hc hp).trans hcall), steps_one]
  exact step_of_failed_read rfl ht

end EndedCalls

/-- The three calls that are read-modify-writes begin with their read (R50). -/
theorem readModifyWrite_call_of_program {s : State} {pin : Pin} {cs : List Call}
    (h : (∃ level, s.program = .setupPower pin level :: cs) ∨ (∃ down, s.program = .enableShutDown pin down :: cs) ∨
      ∃ enable, s.program = .enableOutput pin enable :: cs) :
    ∃ c m, s.program = c :: cs ∧ ∀ t : State, beginCall c t = .next (t.setConsumer (.reading m)) := by
  obtain ⟨_, hp⟩ | ⟨_, hp⟩ | ⟨_, hp⟩ := h <;> exact ⟨_, _, hp, fun _ => rfl⟩

/-- A setup call presents the word that decodes to its operation (R68). -/
theorem request_call_of_setup_result {s : State} {cs : List Call} {u : Result}
    (h : (∃ pll a b c, s.program = .setupPll pll a b c :: cs ∧
        resultOf s.params.rPolicy (.encPll a.toNat b.toNat c.toNat) = u) ∨
      ∃ pin divider r, s.program = .setupMs pin divider r :: cs ∧
        resultOf s.params.rPolicy (.encMs divider.toNat r.toNat 0) = u) :
    ∃ c g w, s.program = c :: cs ∧ beginCall c (s.setProgram cs) = serve ((s.setProgram cs).present g w) ∧
      resultOf s.params.rPolicy (decode w) = u := by
  obtain ⟨pll, a, b, c, hp, hu⟩ | ⟨pin, divider, r, hp, hu⟩ := h
  · exact ⟨_, .pll pll, _, hp, rfl, (congrArg _ (decode_make_zero a b c)).trans hu⟩
  · exact ⟨_, .ms pin, _, hp, rfl, (congrArg _ (decode_make_one divider r 0)).trans hu⟩

/-- Settles O26: in the cycle of the response the consumer takes `Err`, drops its program and reports the code, and the
cycles before it reach no device. -/
theorem errStopsTheProgram : Obligations.ErrStopsTheProgram := by
  refine ⟨fun s g e hc hr ho => ?response, fun s cs e hc hl hsetup => ?call⟩
  case response => exact ⟨_, takeResponse_err hc hr ho, rfl, rfl, rfl, rfl, rfl⟩
  case call =>
    obtain ⟨c, g, w, hp, hcall, hres⟩ := request_call_of_setup_result hsetup
    obtain ⟨b, fs, hsteps⟩ := steps_of_rejected_call hc hl hp hcall hres
    exact ⟨_, hsteps, rfl, rfl, rfl, rfl, rfl⟩

/-- Settles O37: the write lands or not as the report says, and it is the step's only access. -/
theorem failedWriteAborts : Obligations.FailedWriteAborts := by
  intro s w ws landed rs hc ht
  refine ⟨_, step_of_failed_write hc ht, rfl, rfl, rfl, ?oldOrNew, fun x hx => ?other⟩
  case oldOrNew =>
    have hread := busWrite_read_same w (.failed landed) s.device
    cases hlands : (BusReport.failed landed).lands 0 with rw [hlands] at hread
    | true => exact .inl hread
    | false => exact .inr hread
  case other => exact busWrite_read_other w (.failed landed) s.device hx

/-- Settles O42: the call's first step begins its read, and the failure of the read ends it. -/
theorem failedReadEndsCall : Obligations.FailedReadEndsCall := by
  intro s pin cs landed rs hc ht hprogram
  obtain ⟨c, m, hp, hcall⟩ := readModifyWrite_call_of_program hprogram
  refine ⟨_, steps_of_failed_readModifyWrite hc hp ht (hcall _), rfl, rfl, rfl, rfl, rfl, fun p => ?start⟩
  case start => cases p <;> rfl

end Sys2Proof
end

section
/-! Where the consumer is sound every turn goes on (R120, R124): the response it takes is one whose operands were held, and
the block it bursts is of its target's kind. -/

namespace Sys2Proof

open Sys2Proof.Machine

section GoesOn

variable {s t : State} {g : Target}

/-- The response that empties the pipeline answers its last request, which was held, so it has a value (R141, R144). -/
theorem out_of_last_response (hs : LastIsHeld s.request (s.inFlight ++ s.strobed)) (h : clockEdge s = .next t)
    (hrsp : t.rsp = true) (he : t.inFlight = []) : ∃ r, t.out = .result r := by
  by_cases hr : s.rst = true
  · cases (clockEdge_reset s hr).symm.trans h
    cases hrsp
  rw [Bool.not_eq_true] at hr
  rcases ha : s.advance with _ | ⟨f, fs⟩
  · cases (clockEdge_empty s hr ha).symm.trans h
    cases hrsp
  by_cases hl : f.left = 0
  · cases hh : f.held with
    | true =>
      cases (clockEdge_due s hr ha hl hh).symm.trans h
      exact ⟨_, rfl⟩
    | false =>
      cases (clockEdge_moved s hr ha hl hh).symm.trans h
      have hlast : s.advance.getLast? = some f := by rw [ha, show fs = [] from he, List.getLast?_singleton]
      obtain ⟨-, hheld⟩ := lastIsHeld_advance hs f hlast
      cases hh.symm.trans hheld
  · cases (clockEdge_wait s hr ha hl).symm.trans h
    cases hrsp

/-- The consumer faults on a response without a value alone. -/
theorem takeResponse_goesOn (hc : s.consumer = .awaiting g) (h : s.responded = true → ∃ r, s.out = .result r) :
    ∃ t, takeResponse s = .next t := by
  cases hr : s.responded with
  | false => exact ⟨_, takeResponse_of_not_responded hr⟩
  | true =>
    obtain ⟨B | e, ho⟩ := h hr
    · exact ⟨_, takeResponse_ok hc hr ho⟩
    · exact ⟨_, takeResponse_err hc hr ho⟩

theorem serve_goesOn (hc : s.consumer = .awaiting g)
    (hlast : s.params.latency ≠ 0 → LastIsHeld s.request (s.inFlight ++ s.strobed)) : ∃ t, serve s = .next t := by
  obtain ⟨b, fs, o, hb⟩ := blockStep_form s
  rw [serve_of_blockStep hb]
  refine takeResponse_goesOn (g := g) hc fun hresponded => ?_
  by_cases hl : s.params.latency = 0
  · cases ((blockStep_zero s hl).trans (exec_eq s _)).symm.trans hb
    exact ⟨_, rfl⟩
  · obtain ⟨hrsp, he⟩ : b = true ∧ fs = [] := by simpa [State.responded, hl] using hresponded
    have hclock := (blockStep_pos s hl).symm.trans hb
    obtain ⟨r, ho⟩ := out_of_last_response (hlast hl) hclock hrsp he
    exact ⟨r, ho⟩

/-- A setup call with `LATENCY` > 0 strobes its own request last into the pipeline. -/
theorem lastIsHeld_present (w : Request) (hl : s.params.latency ≠ 0) :
    LastIsHeld (s.present g w).request ((s.present g w).inFlight ++ (s.present g w).strobed) := by
  refine lastIsHeld_strobed fun hq => ?_
  rw [State.present_req, decide_eq_false_iff_not] at hq
  exact absurd hl hq

theorem beginCall_goesOn (c : Call) (s : State) : ∃ t, beginCall c s = .next t := by
  have presents (g : Target) (w : Request) : ∃ t, serve (s.present g w) = .next t :=
    serve_goesOn (s.present_consumer g w) (lastIsHeld_present w)
  cases c with
  | setupPll pll a b c => exact presents _ _
  | setupMs pin divider r => exact presents _ _
  | initDevice table => exact ⟨_, rfl⟩
  | resetPll pll => exact ⟨_, rfl⟩
  | setupPower pin level => exact ⟨_, rfl⟩
  | enableShutDown pin down => exact ⟨_, rfl⟩
  | enableOutput pin enable => exact ⟨_, rfl⟩

theorem readyStep_goesOn (s : State) : ∃ t, readyStep s = .next t := by
  unfold readyStep
  split
  · obtain ⟨b, fs, o, hb⟩ := blockStep_form s
    exact ⟨_, hb⟩
  · exact beginCall_goesOn _ _

theorem burst_goesOn (hc : s.consumer = .bursting g) (hs : ConsumerSound s) : StepGoesOn s := by
  unfold ConsumerSound at hs
  rw [hc] at hs
  obtain ⟨hop, B, ho⟩ := hs
  rcases ht : s.transport with _ | ⟨r, rs⟩
  · exact ⟨_, step_of_unreported_burst hc hop ho ht⟩
  · exact ⟨_, step_of_reported_burst hc hop ho ht⟩

theorem readStep_goesOn (m : Rmw) (s : State) : ∃ t, readStep m s = .next t := by
  obtain ⟨_, hr⟩ | ⟨_, _, hr⟩ | ⟨_, _, _, hr⟩ := readStep_cases s m <;> exact ⟨_, hr⟩

theorem writeStep_goesOn (ws : List (Byte × Byte)) (s : State) : ∃ t, writeStep ws s = .next t := by
  obtain ⟨_, hw⟩ | ⟨_, hw⟩ | ⟨_, _, _, _, _, hw⟩ | ⟨_, _, _, _, _, _, hw⟩ := writeStep_cases s ws <;> exact ⟨_, hw⟩

end GoesOn

/-- Settles O48: an awaiting consumer's response answers its own held request, a bursting consumer's block is of its
target's kind, and no other turn has a way to stop. -/
theorem soundStepGoesOn : Obligations.SoundStepGoesOn := by
  intro s hs
  cases hc : s.consumer with
  | ready =>
    rw [StepGoesOn, step_of_ready hc]
    exact readyStep_goesOn s
  | awaiting g =>
    obtain ⟨-, hlast⟩ := (consumerSound_awaiting_iff hc).1 hs
    rw [StepGoesOn, step_of_awaiting hc]
    exact serve_goesOn hc fun _ => lastIsHeld_strobed fun _ => hlast
  | bursting g => exact burst_goesOn hc hs
  | reading m =>
    rw [StepGoesOn, step_eq, hc]
    exact readStep_goesOn m s
  | writing ws =>
    rw [StepGoesOn, step_eq, hc]
    exact writeStep_goesOn ws s

end Sys2Proof
end

section
/-! The pipeline stays ordered, each request in flight within `LATENCY` cycles of its response (R141): what a turn can do to
the pipeline, said once for every agent, and what one cycle of CLK makes of requests in order. -/

namespace Sys2Proof

open Sys2Proof.Machine

/-! ## What a turn can do to the pipeline -/

/-- The pipeline stays, or one turn of the block, on whatever the ports carry, makes it what it is. -/
def PipelineTurn (s t : State) : Prop :=
  t.inFlight = s.inFlight ∨
  ∃ u v, u.params = s.params ∧ u.inFlight = s.inFlight ∧ blockStep u = .next v ∧ t.inFlight = v.inFlight

section PipelineTurn

variable {s t : State}

theorem blockStep_pipelineTurn (h : blockStep s = .next t) : PipelineTurn s t :=
  .inr ⟨s, t, rfl, rfl, h, rfl⟩

theorem takeResponse_inFlight (h : takeResponse s = .next t) : t.inFlight = s.inFlight := by
  obtain rfl | ⟨_, _, _, _, _, rfl⟩ | ⟨_, _, _, _, _, rfl⟩ := takeResponse_cases s h <;> simp

theorem serve_pipelineTurn (h : serve s = .next t) : PipelineTurn s t := by
  obtain ⟨b, fs, o, hb, ht⟩ := serve_cases s h
  exact .inr ⟨s, _, rfl, rfl, hb, (takeResponse_inFlight ht).trans (State.setReq_inFlight _ false)⟩

theorem beginCall_pipelineTurn {c : Call} (h : beginCall c s = .next t) : PipelineTurn s t := by
  obtain ⟨_, _, _, hs⟩ | ⟨_, rfl⟩ | ⟨_, rfl⟩ := beginCall_cases s h
  · simpa [PipelineTurn] using serve_pipelineTurn hs
  · exact .inl rfl
  · exact .inl rfl

theorem readyStep_pipelineTurn (h : readyStep s = .next t) : PipelineTurn s t := by
  unfold readyStep at h
  split at h
  · exact blockStep_pipelineTurn h
  · simpa [PipelineTurn] using beginCall_pipelineTurn h

theorem burstStep_inFlight {g : Target} (h : burstStep g s = .next t) : t.inFlight = s.inFlight := by
  obtain ⟨_, _, _, ⟨_, rfl⟩ | ⟨_, _, _, rfl⟩⟩ := burstStep_cases s h <;> simp

theorem readStep_inFlight {m : Rmw} (h : readStep m s = .next t) : t.inFlight = s.inFlight := by
  obtain ⟨_, hr⟩ | ⟨_, _, hr⟩ | ⟨_, _, _, hr⟩ := readStep_cases s m <;>
  · cases hr.symm.trans h
    simp

theorem writeStep_inFlight {ws : List (Byte × Byte)} (h : writeStep ws s = .next t) : t.inFlight = s.inFlight := by
  obtain ⟨_, hw⟩ | ⟨_, hw⟩ | ⟨_, _, _, _, _, hw⟩ | ⟨_, _, _, _, _, _, hw⟩ := writeStep_cases s ws <;>
  · cases hw.symm.trans h
    simp

/-- The consumer's accesses over the transport take no cycle of CLK (log 16). -/
theorem step_pipelineTurn (h : step s = .next t) : PipelineTurn s t := by
  rw [step_eq] at h
  cases hc : s.consumer with rw [hc] at h
  | ready => exact readyStep_pipelineTurn h
  | awaiting _ => exact serve_pipelineTurn h
  | bursting _ => exact .inl (burstStep_inFlight h)
  | reading _ => exact .inl (readStep_inFlight h)
  | writing _ => exact .inl (writeStep_inFlight h)

/-- One cycle of CLK empties the pipeline, or answers its oldest request, which is due, or answers none. -/
theorem clockEdge_inFlight_cases (h : clockEdge s = .next t) :
    t.inFlight = [] ∨ (∃ f, s.advance = f :: t.inFlight ∧ f.left = 0) ∨
    (∃ f fs, s.advance = f :: fs ∧ f.left ≠ 0 ∧ t.inFlight = f :: fs) := by
  by_cases hr : s.rst = true
  · cases (clockEdge_reset s hr).symm.trans h
    exact .inl rfl
  rw [Bool.not_eq_true] at hr
  rcases ha : s.advance with _ | ⟨f, fs⟩
  · cases (clockEdge_empty s hr ha).symm.trans h
    exact .inl rfl
  by_cases hl : f.left = 0
  · cases hh : f.held with
    | true =>
      cases (clockEdge_due s hr ha hl hh).symm.trans h
      exact .inr (.inl ⟨f, rfl, hl⟩)
    | false =>
      cases (clockEdge_moved s hr ha hl hh).symm.trans h
      exact .inr (.inl ⟨f, rfl, hl⟩)
  · cases (clockEdge_wait s hr ha hl).symm.trans h
    exact .inr (.inr ⟨f, fs, rfl, hl, rfl⟩)

end PipelineTurn

/-! ## Requests in order -/

/-- These requests respond one a cycle, in the order they stand, each with at least `lo` and fewer than `hi` cycles to go. -/
def DueInOrder (lo hi : Nat) (fs : List Flight) : Prop :=
  fs.Pairwise (fun f g => f.left < g.left) ∧ ∀ f ∈ fs, lo ≤ f.left ∧ f.left < hi

theorem pipelineOrdered_iff (s : State) : PipelineOrdered s ↔ DueInOrder 1 s.params.latency s.inFlight := Iff.rfl

section DueInOrder

variable {s t : State} {hi : Nat} {f : Flight} {fs : List Flight}

theorem dueInOrder_nil (lo hi : Nat) : DueInOrder lo hi [] := ⟨List.Pairwise.nil, fun _ hf => absurd hf List.not_mem_nil⟩

/-- A request strobed in this cycle comes last, with all `LATENCY` cycles to go. -/
theorem dueInOrder_strobed (hl : s.params.latency ≠ 0) (h : DueInOrder 1 s.params.latency s.inFlight) :
    DueInOrder 1 (s.params.latency + 1) (s.inFlight ++ s.strobed) := by
  obtain ⟨hord, hbound⟩ := h
  have hnew : ∀ g ∈ s.strobed, g.left = s.params.latency := by
    intro g hg
    rw [State.strobed] at hg
    split at hg
    · rw [List.mem_singleton.1 hg]
    · exact absurd hg List.not_mem_nil
  have hone : s.strobed.Pairwise (fun f g => f.left < g.left) := by
    rw [State.strobed]
    split
    · exact List.pairwise_singleton _ _
    · exact List.Pairwise.nil
  refine ⟨List.pairwise_append.2 ⟨hord, hone, fun f hf g hg => ?_⟩, fun f hf => ?_⟩
  · rw [hnew g hg]
    exact (hbound f hf).2
  · obtain hf | hf := List.mem_append.1 hf
    · exact ⟨(hbound f hf).1, Nat.lt_succ_of_lt (hbound f hf).2⟩
    · rw [hnew f hf]
      exact ⟨Nat.pos_of_ne_zero hl, Nat.lt_succ_self _⟩

/-- A cycle brings every request one cycle nearer to its response. -/
theorem dueInOrder_advance (w : Request) (h : DueInOrder 1 (hi + 1) fs) : DueInOrder 0 hi (fs.map (Flight.advance w)) := by
  obtain ⟨hord, hbound⟩ := h
  refine ⟨List.pairwise_map.2 (hord.imp_of_mem fun {f g} hf _ hfg => ?_), fun f hf => ?_⟩
  · exact Nat.sub_lt_sub_right (hbound f hf).1 hfg
  · obtain ⟨g, hg, rfl⟩ := List.mem_map.1 hf
    obtain ⟨hlo, hhi⟩ := hbound g hg
    exact ⟨Nat.zero_le _, show g.left - 1 < hi by omega⟩

/-- Behind the oldest request no other is due. -/
theorem dueInOrder_tail (h : DueInOrder 0 hi (f :: fs)) : DueInOrder 1 hi fs := by
  obtain ⟨hord, hbound⟩ := h
  obtain ⟨hfirst, hrest⟩ := List.pairwise_cons.1 hord
  exact ⟨hrest, fun g hg => ⟨Nat.one_le_of_lt (hfirst g hg), (hbound g (List.mem_cons_of_mem f hg)).2⟩⟩

/-- Where the oldest request is not due, none is. -/
theorem dueInOrder_of_head_not_due (hf : f.left ≠ 0) (h : DueInOrder 0 hi (f :: fs)) : DueInOrder 1 hi (f :: fs) := by
  obtain ⟨-, hbound⟩ := dueInOrder_tail h
  obtain ⟨hord, hbound'⟩ := h
  refine ⟨hord, List.forall_mem_cons.2 ⟨⟨Nat.pos_of_ne_zero hf, ?_⟩, hbound⟩⟩
  exact (hbound' f List.mem_cons_self).2

theorem clockEdge_keeps_dueInOrder (hl : s.params.latency ≠ 0) (hs : DueInOrder 1 s.params.latency s.inFlight)
    (h : clockEdge s = .next t) : DueInOrder 1 s.params.latency t.inFlight := by
  have hadv : DueInOrder 0 s.params.latency s.advance := dueInOrder_advance s.request (dueInOrder_strobed hl hs)
  obtain ht | ⟨f, ha, -⟩ | ⟨f, fs, ha, hf, ht⟩ := clockEdge_inFlight_cases h
  · rw [ht]
    exact dueInOrder_nil 1 _
  · rw [ha] at hadv
    exact dueInOrder_tail hadv
  · rw [ha] at hadv
    rw [ht]
    exact dueInOrder_of_head_not_due hf hadv

/-- With `LATENCY` 0 the pipeline has no part in the block's turn (R140). -/
theorem blockStep_keeps_dueInOrder (hs : DueInOrder 1 s.params.latency s.inFlight) (h : blockStep s = .next t) :
    DueInOrder 1 s.params.latency t.inFlight := by
  by_cases hl : s.params.latency = 0
  · cases ((blockStep_zero s hl).trans (exec_eq s _)).symm.trans h
    exact hs
  · exact clockEdge_keeps_dueInOrder hl hs ((blockStep_pos s hl).symm.trans h)

end DueInOrder

/-- Settles O45: a cycle brings every request one nearer and answers the oldest where it is due, and nothing but the
block's turn reaches the pipeline. -/
theorem stepKeepsPipelineOrdered : Obligations.StepKeepsPipelineOrdered := by
  intro s t hs h
  rw [pipelineOrdered_iff] at hs ⊢
  rw [stepKeepsParameters s t h]
  obtain ht | ⟨u, v, hp, hu, hv, ht⟩ := step_pipelineTurn h
  · rwa [ht]
  · rw [← hu, ← hp] at hs
    rw [ht, ← hp]
    exact blockStep_keeps_dueInOrder hs hv

end Sys2Proof
end

section
/-! Outputs without a value in a bare requester's cycle of CLK: after RST, and where operands moved (R141, R144). -/

namespace Sys2Proof

open Sys2Proof.Machine

/-! ## Reading outputs that hold no value (R141, R144) -/

theorem readErr_of_out_noValue {s : State} (h : s.out = .noValue) : s.readErr = .error .outputHasNoValue := by
  rw [State.readErr, h, Output.read]

theorem readLane_of_out_noValue {s : State} (h : s.out = .noValue) (k : Fin 8) :
    s.readLane k = .error .outputHasNoValue := by
  rw [State.readLane, State.readBlock, h, Output.read]

/-- Settles O24: the cycle is one of CLK with RST asserted. -/
theorem clockedResetClears : Obligations.ClockedResetClears := by
  intro s hb hl hr
  have hstep : step s = .next ((s.setPipe false []).setOut .noValue) :=
    (step_of_bareRequest hb).trans ((blockStep_pos s hl).trans (clockEdge_reset s hr))
  exact ⟨_, hstep, rfl, rfl, readErr_of_out_noValue rfl, readLane_of_out_noValue rfl⟩

/-! ## A request due in this cycle (R144) -/

/-- What the cycle finds of a due request: it was held if it was so far and the ports carry it now (log 15). -/
theorem advance_held (w : Request) (f : Flight) : (f.advance w).held = true ↔ f.held = true ∧ f.request = w := by
  rw [Flight.advance, Bool.and_eq_true, decide_eq_true_eq, eq_comm (a := w)]

theorem advance_of_inFlight_cons {s : State} {f : Flight} {fs : List Flight} (h : s.inFlight = f :: fs) :
    s.advance = f.advance s.request :: (fs ++ s.strobed).map (Flight.advance s.request) := by
  rw [State.advance, h, List.cons_append, List.map_cons]

/-- Settles O25: the oldest request is due in this cycle, and whether it was held decides its response. -/
theorem operandsMustBeHeld : Obligations.OperandsMustBeHeld := by
  intro s f fs hbare hl hr hf hleft
  have hstep := step_of_clockedBare ⟨hbare, hl, hr⟩
  have hadv := advance_of_inFlight_cons hf
  have hdue : (f.advance s.request).left = 0 := Nat.sub_eq_zero_of_le hleft.le
  refine ⟨fun hmoved => ?moved, fun hheld hreq => ?held⟩
  case moved =>
    have hnot : (f.advance s.request).held = false := by
      rw [← Bool.not_eq_true, advance_held]
      rintro ⟨hheld, hreq⟩
      obtain hh | hq := hmoved
      · exact Bool.false_ne_true (hh.symm.trans hheld)
      · exact hq hreq
    exact ⟨_, hstep.trans (clockEdge_moved s hr hadv hdue hnot), rfl, readErr_of_out_noValue rfl,
      readLane_of_out_noValue rfl⟩
  case held =>
    exact ⟨_, hstep.trans (clockEdge_due s hr hadv hdue ((advance_held _ f).2 ⟨hheld, hreq⟩)), rfl, rfl⟩

end Sys2Proof
end

section
/-! The controller's initialize and resetPLL, write by write, and the settings their resets start the PLLs from (R143,
R146). -/

namespace Sys2Proof

open Sys2Proof.Machine

/-! ## A sequence of acknowledged writes (R143) -/

/-- These registers written one after the other. -/
def Machine.Memory.writeAll (m : Memory) (ws : List (Byte × Byte)) : Memory := ws.foldl (fun m w => m.write w.1 w.2) m

theorem writeAll_concat (m : Memory) (ws : List (Byte × Byte)) (w : Byte × Byte) :
    m.writeAll (ws ++ [w]) = (m.writeAll ws).write w.1 w.2 := by
  rw [Memory.writeAll, List.foldl_concat]
  rfl

/-- From `s` to `u` the consumer has made the writes `made`, in this order and all acknowledged; the writes `left` and the
transport's reports `rs` are still to come, and the caller has been told nothing. -/
structure WritesMade (s u : State) (made left : List (Byte × Byte)) (rs : List BusReport) : Prop where
  consumer : u.consumer = .writing left
  transport : u.transport = rs
  program : u.program = s.program
  reports : u.reports = s.reports
  device : u.device = s.device.writeAll made

theorem steps_of_acknowledged_writes {left : List (Byte × Byte)} {rs : List BusReport} (ws : List (Byte × Byte)) :
    ∀ {s : State}, s.consumer = .writing (ws ++ left) → s.transport = List.replicate ws.length .success ++ rs →
      ∃ u, steps ws.length s = .next u ∧ WritesMade s u ws left rs := by
  induction ws with
  | nil => exact fun {s} hc ht => ⟨s, rfl, hc, ht, rfl, rfl, rfl⟩
  | cons w ws ih =>
    intro s hc ht
    have hstep := step_of_acknowledged_write hc ht
    obtain ⟨u, hsteps, hu⟩ := ih (s := ((s.applyWrite w .success).setTransport _).setConsumer _) rfl rfl
    exact ⟨u, (steps_succ_of_step hstep _).trans hsteps, hu.consumer, hu.transport, hu.program, hu.reports, hu.device⟩

/-- The state in which a call's last write is made and acknowledged, and the call reported done. -/
def Machine.State.lastWritten (s : State) (w : Byte × Byte) (rs : List BusReport) : State :=
  (((s.applyWrite w .success).setTransport rs).setConsumer (.writing [])).finish .done

theorem steps_of_last_write {s : State} {w : Byte × Byte} {rs : List BusReport} (hc : s.consumer = .writing [w])
    (ht : s.transport = .success :: rs) : steps 2 s = .next (s.lastWritten w rs) :=
  (steps_succ_of_step (step_of_acknowledged_write hc ht) 1).trans ((steps_one _).trans (step_of_no_write_left rfl))

@[simp] theorem lastWritten_device (s : State) (w : Byte × Byte) (rs : List BusReport) :
    (s.lastWritten w rs).device = s.device.write w.1 w.2 := rfl

@[simp] theorem lastWritten_start (s : State) (w : Byte × Byte) (rs : List BusReport) (p : Pll) :
    (s.lastWritten w rs).start p = s.startAfter w .success p := by
  simp [State.lastWritten]

/-! ## The start of a PLL (R146) -/

/-- The one bit resetPLL writes resets its own PLL alone (R50). -/
theorem startAfter_resetBit (s : State) (p q : Pll) : s.startAfter (resetControl, resetBit p) .success q =
    if q = p then some (blockSettings (.pll p) s.device) else s.start q := by
  cases p <;> cases q <;> rfl

/-- The last write of initialize resets both PLLs. -/
theorem startAfter_bothResetBits (s : State) (p : Pll) :
    s.startAfter (resetControl, resetBit .a ||| resetBit .b) .success p = some (blockSettings (.pll p) s.device) := by
  cases p <;> rfl

/-- A PLL that started from the settings its block holds runs from them. -/
theorem runsFrom_of_start {s : State} {p : Pll} {l : Settings} (h : s.start p = some l)
    (hblock : blockSettings (.pll p) s.device = l) : s.runsFrom p = some l := by
  rw [State.runsFrom, hblock, if_pos h, h]

/-- Where a lane of its block holds another byte than the PLL started from, nothing is claimed of what it runs from. -/
theorem runsFrom_eq_none {s : State} {p : Pll} {l : Settings} {k : Fin 8} (h : s.start p = some l)
    (hk : l[k.val]? ≠ some (s.device.read (blockRegister (.pll p) k))) : s.runsFrom p = none := by
  rw [State.runsFrom, if_neg]
  rw [h, Option.some.injEq]
  rintro rfl
  exact hk (blockSettings_lane (.pll p) s.device k)

/-! ## initialize (R143) -/

/-- The writes of initialize as R143 lists them. -/
theorem initWrites_eq (table : List (Byte × Byte)) :
    initWrites table = [(3, 0xFF), (16, 0x80), (17, 0x80), (18, 0x80)] ++ table ++ [(177, 0xA0)] := rfl

theorem length_initWrites (table : List (Byte × Byte)) : (initWrites table).length = table.length + 5 := by
  simp [initWrites]

/-- After `k + 1` steps of the call its first `k` writes are made. -/
theorem steps_of_initDevice {s : State} {table : List (Byte × Byte)} {cs : List Call} {rs : List BusReport} {k : Nat}
    (hc : s.consumer = .ready) (hp : s.program = .initDevice table :: cs)
    (ht : s.transport = List.replicate (table.length + 5) .success ++ rs) (hk : k ≤ table.length + 5) :
    ∃ u, steps (k + 1) s = .next u ∧ WritesMade (s.setProgram cs) u ((initWrites table).take k)
      ((initWrites table).drop k) (List.replicate (table.length + 5 - k) .success ++ rs) := by
  have hlen : ((initWrites table).take k).length = k := by rw [List.length_take, length_initWrites, Nat.min_eq_left hk]
  have hreports : s.transport = List.replicate ((initWrites table).take k).length .success ++
      (List.replicate (table.length + 5 - k) .success ++ rs) := by
    rw [ht, hlen, ← List.append_assoc, List.replicate_append_replicate, Nat.add_sub_cancel' hk]
  have hwrites : ((s.setProgram cs).setConsumer (.writing (initWrites table))).consumer =
      .writing ((initWrites table).take k ++ (initWrites table).drop k) := by
    rw [List.take_append_drop]
    rfl
  obtain ⟨u, hsteps, hu⟩ := steps_of_acknowledged_writes _ hwrites hreports
  rw [hlen] at hsteps
  exact ⟨u, (steps_succ_of_step (step_of_call hc hp) k).trans hsteps, hu.consumer, hu.transport, hu.program, hu.reports,
    hu.device⟩

theorem drop_initWrites (table : List (Byte × Byte)) :
    (initWrites table).drop (table.length + 4) = [(resetControl, resetBit .a ||| resetBit .b)] := by
  rw [initWrites, List.drop_left' (by simp)]

/-- The last write of initialize comes on top of the others. -/
theorem writeAll_initWrites (m : Memory) (table : List (Byte × Byte)) : m.writeAll (initWrites table) =
    (m.writeAll ((initWrites table).take (table.length + 4))).write resetControl (resetBit .a ||| resetBit .b) := by
  conv_lhs => rw [← List.take_append_drop (table.length + 4) (initWrites table), drop_initWrites, writeAll_concat]

/-- Settles O36: after k + 1 steps the first k writes are made, and the last one, of both reset bits, leaves the blocks the
PLLs start from. -/
theorem initDeviceOrder : Obligations.InitDeviceOrder := by
  intro s table cs rs hc hp ht
  rw [← initWrites_eq]
  refine ⟨fun k hk => ?inOrder, ?whole⟩
  case inOrder =>
    obtain ⟨u, hsteps, hu⟩ := steps_of_initDevice hc hp ht hk
    exact ⟨u, hsteps, hu.reports, hu.device⟩
  case whole =>
    obtain ⟨u, hsteps, hu⟩ := steps_of_initDevice hc hp ht (Nat.le_succ (table.length + 4))
    rw [drop_initWrites, show table.length + 5 - (table.length + 4) = 1 by omega] at hu
    have hend := steps_of_last_write hu.consumer hu.transport
    refine ⟨_, (steps_add_of_steps 2 hsteps).trans hend,
      ⟨rfl, hu.program, rfl, congrArg (· ++ [CallReport.done]) hu.reports⟩, ?device, fun p => ?start⟩
    case device =>
      have hmade := congrArg (fun m => m.write resetControl (resetBit .a ||| resetBit .b)) hu.device
      exact hmade.trans (writeAll_initWrites s.device table).symm
    case start =>
      rw [lastWritten_start, lastWritten_device, startAfter_bothResetBits, blockSettings_resetControl]

/-! ## resetPLL and a burst after it (R146) -/

/-- resetPLL starts its PLL from its block, and leaves the block and the other PLL's start (R146). -/
theorem steps_of_resetPll {s : State} {p : Pll} {cs : List Call} {rs : List BusReport} (hc : s.consumer = .ready)
    (hp : s.program = .resetPll p :: cs) (ht : s.transport = .success :: rs) :
    ∃ t, steps 3 s = .next t ∧ blockSettings (.pll p) t.device = blockSettings (.pll p) s.device ∧
      ∀ q, t.start q = if q = p then some (blockSettings (.pll p) s.device) else s.start q := by
  have hwrite := steps_of_last_write (s := (s.setProgram cs).setConsumer (.writing [(resetControl, resetBit p)])) rfl ht
  refine ⟨_, (steps_succ_of_step (step_of_call hc hp) 2).trans hwrite, ?block, fun q => ?start⟩
  case block => exact blockSettings_resetControl (.pll p) s.device (resetBit p)
  case start =>
    rw [lastWritten_start, startAfter_resetBit]
    simp

/-- Settles O39: the call's one write starts its PLL and leaves the block, and a burst starts none. -/
theorem resetStartsPllFromItsBlock : Obligations.ResetStartsPllFromItsBlock := by
  refine ⟨fun s pll cs rs hc hp ht => ?reset, fun s pll B r rs hc hop ho ht => ?burst⟩
  case reset =>
    obtain ⟨t, hsteps, hblock, hstart⟩ := steps_of_resetPll hc hp ht
    have hown : t.start pll = some (blockSettings (.pll pll) s.device) := (hstart pll).trans (if_pos rfl)
    exact ⟨t, _, hsteps, hown, runsFrom_of_start hown hblock, rfl, blockSettings_lane (.pll pll) s.device,
      fun q hq => (hstart q).trans (if_neg hq)⟩
  case burst =>
    refine ⟨_, step_of_reported_burst hc hop ho ht, fun q => by simp, fun l k hl hk => ?_⟩
    exact runsFrom_eq_none (by simpa using hl) hk

end Sys2Proof
end
